-- ==== Sys2Proof/Word.lean ====
section
/-! DEFINITION. The words of the block: one name per width that the spec gives (00_scope.md R7, 10_state.md R24 to R39).
Every value is one bit vector, computed whole (20_memory.md R51). -/

namespace Sys2Proof

/-- An 8-bit button mask; bit i stands for ButtonIndex i (00_scope.md R8, 10_state.md R22, R23). -/
abbrev Mask := BitVec 8

/-- A NOW operand or a timestamp, in milliseconds, modulo 2^32 (00_scope.md R7 TIME_W). -/
abbrev Time := BitVec 32

/-- CMD[15:0], a command word (30_encoding.md R70). -/
abbrev CmdWord := BitVec 16

/-- OPND[31:0], the operand presented with a command word (30_encoding.md R70). -/
abbrev Operand := BitVec 32

/-- The width of RESULT (10_state.md R31). -/
abbrev ResultWord := BitVec 32

/-- The width of ILL (10_state.md R32). -/
abbrev Flag := BitVec 1

/-- IDX[7:0], the button index of a class I command (30_encoding.md R74). -/
abbrev ButtonIdx := BitVec 8

/-- A code on ADC1 or ADC2 (10_state.md R39 ADC_W). -/
abbrev AdcCode := BitVec 12

/-- The level of PWR_N: 0 is low, pressed (10_state.md R39). -/
abbrev PinLevel := BitVec 1

/-- The value of BAT_IN in the primitive's own unit (10_state.md R39 BAT_W). -/
abbrev BatCode := BitVec 16

/-- A millivolt value (00_scope.md R7 MV_W). -/
abbrev Millivolts := BitVec 16

/-- A threshold entry, a SIGNED 16-bit integer (10_state.md R34). -/
abbrev Threshold := BitVec 16

end Sys2Proof
end

