-- ==== Sys2Proof/Config.lean ====
section
/-! DEFINITION. The configuration of an instance: the parameters the spec leaves to the instance (00_scope.md R7,
10_state.md R34 to R37), and TCFG, the one configuration the spec names (92_eei_decisions.md D8).
The spec leaves no value of this block undefined, so there is no opaque constant here. -/

namespace Sys2Proof

/-- The configuration arguments of one instance, constant for its life (10_state.md R40). -/
structure Configuration where
  /-- THR1[0..4], channel 1's boundaries, the last one the sentinel (10_state.md R34). -/
  thr1 : Vector Threshold 5
  /-- THR2[0..2], channel 2's boundaries, the last one the sentinel (10_state.md R34). -/
  thr2 : Vector Threshold 3
  /-- DEBOUNCE_DELAY in NOW units; the spec's value is 5 and it lets a model take the value as an
  argument (10_state.md R36). DESIGN CHOICE (log 3), safe: every value is covered. -/
  debounceDelay : Time
  /-- RATIO_NUM (10_state.md R37). -/
  ratioNum : BitVec 16
  /-- RATIO_DEN, at least 1 in a well-formed configuration (10_state.md R37). -/
  ratioDen : BitVec 16
deriving DecidableEq, Repr

/-- TCFG, the test configuration of 92_eei_decisions.md D8. It "does not claim to hold the firmware's values".
It is the configuration of `State.reset` only. DESIGN CHOICE (log 2), unsafe for a claim about `State.reset` alone. -/
def Configuration.tcfg : Configuration where
  thr1 := #v[3900, 3000, 2000, 1000, -1]
  thr2 := #v[3900, 2000, -1]
  debounceDelay := 5
  ratioNum := 2
  ratioDen := 1

end Sys2Proof
end

