-- ==== Sys2Proof/Syntax.lean ====
section
/-! DEFINITION. The command set CMD-1: one constructor of `Instr` per row of spec/opcode_table.json
(30_encoding.md R72), the operand classes (R71), what decoding can answer (R76), and the assembler's commands (R79). -/

namespace Sys2Proof

/-- The mnemonics of the opcode table, in the document's order (00_scope.md R2, 30_encoding.md R72). -/
inductive Mnemonic where
  | sample | update | isPressed | wasPressed | wasReleased | wasAnyPressed | wasAnyReleased
  | getHeldTime | getButtonName | pctFromMv | readMv | readPct
deriving DecidableEq, Repr

/-- The operand classes N, I, T and M of 30_encoding.md R71. -/
inductive OperandClass where
  /-- Class N: IDX must be 0x00, OPND is ignored. -/
  | noArgument
  /-- Class I: IDX is the button index, OPND is ignored. -/
  | index
  /-- Class T: IDX must be 0x00, OPND is NOW. -/
  | time
  /-- Class M: IDX must be 0x00, OPND[15:0] is MV and OPND[31:16] must be 0. -/
  | millivolts
deriving DecidableEq, Repr

/-- The class column of 30_encoding.md R72. -/
def Mnemonic.operandClass : Mnemonic → OperandClass
  | .sample => .noArgument
  | .update => .time
  | .isPressed => .index
  | .wasPressed => .index
  | .wasReleased => .index
  | .wasAnyPressed => .noArgument
  | .wasAnyReleased => .noArgument
  | .getHeldTime => .time
  | .getButtonName => .index
  | .pctFromMv => .millivolts
  | .readMv => .noArgument
  | .readPct => .noArgument

/-- A decoded command with the arguments its class carries (30_encoding.md R72, R75). -/
inductive Instr where
  /-- SAMPLE (40_threshold_comparator.md R107). -/
  | sample
  /-- UPDATE at time NOW (41_debounce_edge.md R120). -/
  | update (now : Time)
  /-- IS_PRESSED (42_queries_hold_timer.md R151). -/
  | isPressed (idx : ButtonIdx)
  /-- WAS_PRESSED (42_queries_hold_timer.md R152). -/
  | wasPressed (idx : ButtonIdx)
  /-- WAS_RELEASED (42_queries_hold_timer.md R153). -/
  | wasReleased (idx : ButtonIdx)
  /-- WAS_ANY_PRESSED (42_queries_hold_timer.md R154). -/
  | wasAnyPressed
  /-- WAS_ANY_RELEASED (42_queries_hold_timer.md R155). -/
  | wasAnyReleased
  /-- GET_HELD_TIME at time NOW (42_queries_hold_timer.md R156). -/
  | getHeldTime (now : Time)
  /-- GET_BUTTON_NAME (42_queries_hold_timer.md R158). -/
  | getButtonName (idx : ButtonIdx)
  /-- PCT_FROM_MV (43_polynomial_scaler.md R183). -/
  | pctFromMv (mv : Millivolts)
  /-- READ_MV (43_polynomial_scaler.md R185). -/
  | readMv
  /-- READ_PCT (43_polynomial_scaler.md R186). -/
  | readPct
deriving DecidableEq, Repr

/-- The row of the opcode table a command belongs to. -/
def Instr.mnemonic : Instr → Mnemonic
  | .sample => .sample
  | .update _ => .update
  | .isPressed _ => .isPressed
  | .wasPressed _ => .wasPressed
  | .wasReleased _ => .wasReleased
  | .wasAnyPressed => .wasAnyPressed
  | .wasAnyReleased => .wasAnyReleased
  | .getHeldTime _ => .getHeldTime
  | .getButtonName _ => .getButtonName
  | .pctFromMv _ => .pctFromMv
  | .readMv => .readMv
  | .readPct => .readPct

/-- The four causes of ILLEGAL (60_exceptions.md R202). The machine records none of them: all give one response. -/
inductive IllegalCause where
  /-- CMD[15:12] is 0xC to 0xF. -/
  | reservedOpcode
  /-- RSV = CMD[11:8] is not 0. -/
  | reservedField
  /-- IDX = CMD[7:0] is not 0 on a command of class N, T or M. -/
  | indexNotAllowed
  /-- OPND[31:16] is not 0 on PCT_FROM_MV. -/
  | millivoltsOutOfRange
deriving DecidableEq, Repr

/-- What the decoder answers: it is total on every pair (CMD, OPND) (30_encoding.md R76). -/
inductive Decoded where
  /-- One command with its arguments. -/
  | command (i : Instr)
  /-- ILLEGAL, with the first check of R76 that failed. -/
  | illegal (cause : IllegalCause)
deriving DecidableEq, Repr

/-- A command as the assembler reads it: a mnemonic and, for classes I, T and M, one number (30_encoding.md R79). -/
structure AsmCommand where
  mnemonic : Mnemonic
  arg : Option Nat
deriving DecidableEq, Repr

/-- The assembly form of a command (30_encoding.md R79). -/
def Instr.toAsm : Instr → AsmCommand
  | .update now => ⟨.update, some now.toNat⟩
  | .isPressed idx => ⟨.isPressed, some idx.toNat⟩
  | .wasPressed idx => ⟨.wasPressed, some idx.toNat⟩
  | .wasReleased idx => ⟨.wasReleased, some idx.toNat⟩
  | .getHeldTime now => ⟨.getHeldTime, some now.toNat⟩
  | .getButtonName idx => ⟨.getButtonName, some idx.toNat⟩
  | .pctFromMv mv => ⟨.pctFromMv, some mv.toNat⟩
  | .sample => ⟨.sample, none⟩
  | .wasAnyPressed => ⟨.wasAnyPressed, none⟩
  | .wasAnyReleased => ⟨.wasAnyReleased, none⟩
  | .readMv => ⟨.readMv, none⟩
  | .readPct => ⟨.readPct, none⟩

end Sys2Proof
end

