-- ==== Sys2Proof/WellFormed.lean ====
section
/-! DEFINITION. What the spec calls well-formed: an assembler command whose argument is in the range of its class
(30_encoding.md R79), an instruction whose assembly form is such a command, and a configuration that keeps the
invariants of 10_state.md R35 and R37. -/

namespace Sys2Proof

/-- The assembler's checks: "an index outside 0 to 255, a NOW outside 0 to 2^32 - 1 and an MV outside 0 to 65535"
refused (30_encoding.md R79). That an argument must be there exactly where the class takes one is a DESIGN CHOICE
(log 12), unsafe for a claim about such a line. -/
def AsmCommand.wellFormed (c : AsmCommand) : Bool :=
  match c.mnemonic.operandClass, c.arg with
  | .noArgument, none => true
  | .index, some n => decide (n ≤ 255)
  | .time, some n => decide (n < 4294967296)
  | .millivolts, some n => decide (n ≤ 65535)
  | _, _ => false

/-- An instruction is well-formed when the assembler accepts it. The widths of the operand fields admit exactly the
values the encodings admit, so every term of `Instr` is well-formed (Laws/PerInstr.lean proves it). -/
def Instr.wellFormed (i : Instr) : Bool := i.toAsm.wellFormed

/-- "its entries strictly decrease" (10_state.md R35), as signed integers. -/
def strictlyDecreasing : List Threshold → Bool
  | upper :: lower :: rest => decide (lower.toInt < upper.toInt) && strictlyDecreasing (lower :: rest)
  | _ => true

/-- THR1 and THR2 strictly decrease and RATIO_DEN is at least 1 (70_reset_and_hazards.md R233). -/
def Configuration.wellFormed (c : Configuration) : Bool :=
  strictlyDecreasing c.thr1.toList && strictlyDecreasing c.thr2.toList && decide (c.ratioDen ≠ 0)

end Sys2Proof
end

