-- ==== Sys2Proof/Decode.lean ====
section
/-! DEFINITION. Decoding a command word with its operand (30_encoding.md R70 to R78), and the encoder, written on its
own from the match column of R72. -/

namespace Sys2Proof

/-- OP = CMD[15:12] (30_encoding.md R71). -/
def cmdOp (cmd : CmdWord) : BitVec 4 := cmd.extractLsb' 12 4

/-- RSV = CMD[11:8] (30_encoding.md R71, R73). -/
def cmdRsv (cmd : CmdWord) : BitVec 4 := cmd.extractLsb' 8 4

/-- IDX = CMD[7:0] (30_encoding.md R71, R74). -/
def cmdIdx (cmd : CmdWord) : ButtonIdx := cmd.extractLsb' 0 8

/-- OPND[31:16], which must be 0 on PCT_FROM_MV (30_encoding.md R75). -/
def opndHigh (opnd : Operand) : BitVec 16 := opnd.extractLsb' 16 16

/-- MV = OPND[15:0] (30_encoding.md R75). -/
def opndMillivolts (opnd : Operand) : Millivolts := opnd.extractLsb' 0 16

/-- NOW = OPND[31:0] (30_encoding.md R75). -/
def opndNow (opnd : Operand) : Time := opnd

/-- The OP column of 30_encoding.md R72; 0xC to 0xF are reserved (R77). -/
def selectMnemonic (op : BitVec 4) : Option Mnemonic :=
  match op.toNat with
  | 0 => some .sample
  | 1 => some .update
  | 2 => some .isPressed
  | 3 => some .wasPressed
  | 4 => some .wasReleased
  | 5 => some .wasAnyPressed
  | 6 => some .wasAnyReleased
  | 7 => some .getHeldTime
  | 8 => some .getButtonName
  | 9 => some .pctFromMv
  | 10 => some .readMv
  | 11 => some .readPct
  | _ => none

/-- The selected command with the arguments its class takes from IDX and OPND; nothing is sign-extended, scaled or
shifted (30_encoding.md R75). -/
def assembleInstr (m : Mnemonic) (idx : ButtonIdx) (opnd : Operand) : Instr :=
  match m with
  | .sample => .sample
  | .update => .update (opndNow opnd)
  | .isPressed => .isPressed idx
  | .wasPressed => .wasPressed idx
  | .wasReleased => .wasReleased idx
  | .wasAnyPressed => .wasAnyPressed
  | .wasAnyReleased => .wasAnyReleased
  | .getHeldTime => .getHeldTime (opndNow opnd)
  | .getButtonName => .getButtonName idx
  | .pctFromMv => .pctFromMv (opndMillivolts opnd)
  | .readMv => .readMv
  | .readPct => .readPct

/-- The decoder of 30_encoding.md R76: its four checks in its order, then the arguments of the class. -/
def decode (cmd : CmdWord) (opnd : Operand) : Decoded :=
  match selectMnemonic (cmdOp cmd) with
  | none => .illegal .reservedOpcode
  | some m =>
    if cmdRsv cmd ≠ 0 then .illegal .reservedField
    else if m.operandClass ≠ .index ∧ cmdIdx cmd ≠ 0 then .illegal .indexNotAllowed
    else if m.operandClass = .millivolts ∧ opndHigh opnd ≠ 0 then .illegal .millivoltsOutOfRange
    else .command (assembleInstr m (cmdIdx cmd) opnd)

/-- The decoder answers ILLEGAL (30_encoding.md R76). -/
def isIllegal (cmd : CmdWord) (opnd : Operand) : Bool :=
  match decode cmd opnd with
  | .command _ => false
  | .illegal _ => true

/-- The match column of 30_encoding.md R72. -/
def matchWord : Mnemonic → CmdWord
  | .sample => 0x0000
  | .update => 0x1000
  | .isPressed => 0x2000
  | .wasPressed => 0x3000
  | .wasReleased => 0x4000
  | .wasAnyPressed => 0x5000
  | .wasAnyReleased => 0x6000
  | .getHeldTime => 0x7000
  | .getButtonName => 0x8000
  | .pctFromMv => 0x9000
  | .readMv => 0xA000
  | .readPct => 0xB000

/-- The mask column of 30_encoding.md R72. -/
def maskWord : Mnemonic → CmdWord
  | .sample => 0xFFFF
  | .update => 0xFFFF
  | .isPressed => 0xFF00
  | .wasPressed => 0xFF00
  | .wasReleased => 0xFF00
  | .wasAnyPressed => 0xFFFF
  | .wasAnyReleased => 0xFFFF
  | .getHeldTime => 0xFFFF
  | .getButtonName => 0xFF00
  | .pctFromMv => 0xFFFF
  | .readMv => 0xFFFF
  | .readPct => 0xFFFF

/-- A CMD value selects a row of the opcode map (30_encoding.md R72). -/
def rowMatches (m : Mnemonic) (cmd : CmdWord) : Bool := cmd &&& maskWord m == matchWord m

/-- CMD of a class I command: the match word with IDX in bits 7 to 0 (30_encoding.md R72). -/
def indexedWord (m : Mnemonic) (idx : ButtonIdx) : CmdWord := matchWord m ||| idx.setWidth 16

/-- The pair (CMD, OPND) of a command, as the assembler writes it: OPND is NOW or MV, and 0 for the classes that ignore
it (30_encoding.md R72, R75, R79). -/
def encode (i : Instr) : CmdWord × Operand :=
  match i with
  | .sample => (matchWord .sample, 0)
  | .update now => (matchWord .update, now)
  | .isPressed idx => (indexedWord .isPressed idx, 0)
  | .wasPressed idx => (indexedWord .wasPressed idx, 0)
  | .wasReleased idx => (indexedWord .wasReleased idx, 0)
  | .wasAnyPressed => (matchWord .wasAnyPressed, 0)
  | .wasAnyReleased => (matchWord .wasAnyReleased, 0)
  | .getHeldTime now => (matchWord .getHeldTime, now)
  | .getButtonName idx => (indexedWord .getButtonName idx, 0)
  | .pctFromMv mv => (matchWord .pctFromMv, mv.setWidth 32)
  | .readMv => (matchWord .readMv, 0)
  | .readPct => (matchWord .readPct, 0)

/-- CMD of a table word: its bits 15 to 0, those at or above `nbits` read as 0. -/
def tableCmd (nbits w : Nat) : CmdWord := BitVec.ofNat 16 (w % 2 ^ nbits)

/-- OPND of a table word: bits 47 to 16, those at or above `nbits` read as 0. The table numbers only CMD's 16 bits, so
OPND is 0 there; the numbering of OPND is a DESIGN CHOICE (log 8), safe. -/
def tableOpnd (nbits w : Nat) : Operand := BitVec.ofNat 32 (w % 2 ^ nbits / 65536)

/-- The command the decoder reads from a word of spec/opcode_table.json, `none` where it answers ILLEGAL. -/
def decodeTableWord (nbits w : Nat) : Option Instr :=
  match decode (tableCmd nbits w) (tableOpnd nbits w) with
  | .command i => some i
  | .illegal _ => none

end Sys2Proof
end

