-- ==== Sys2Proof/Machine/State.lean ====
section
/-! DEFINITION. The state of one instance: the nine registers of 10_state.md R24 to R32, its constant configuration,
and, as the model's own fields, what the host and the environment present to it. -/

namespace Sys2Proof.Machine

/-- The values the environment presents on the four input ports (10_state.md R39). -/
structure Ports where
  /-- ADC1, the code of analog channel 1. -/
  adc1 : AdcCode
  /-- ADC2, the code of analog channel 2. -/
  adc2 : AdcCode
  /-- PWR_N, the power pin, active-low. -/
  pwrN : PinLevel
  /-- BAT_IN, the battery channel. -/
  batIn : BatCode
deriving DecidableEq, Repr

/-- What the outside world does to an instance, between commands (00_scope.md R5, 20_memory.md R56). There is no event
for two commands that overlap: the spec gives them no step (20_memory.md R58). -/
inductive Event where
  /-- The host presents CMD and OPND (30_encoding.md R70); `draws` are the port values that command sees, a draw of its
  own for each command (00_scope.md R6, 20_memory.md R55). -/
  | command (cmd : CmdWord) (opnd : Operand) (draws : Ports)
  /-- The reset input is asserted (70_reset_and_hazards.md R230). -/
  | reset
deriving DecidableEq, Repr

/-- The state of one instance of the block. -/
@[ext]
structure State where
  /-- LRAW, the raw mask sampled last when it differed from the one before (10_state.md R24). -/
  lraw : Mask
  /-- STABLE, the debounced mask (10_state.md R25). -/
  stable : Mask
  /-- PRESSED, the pressed edge mask of the last UPDATE (10_state.md R26). -/
  pressed : Mask
  /-- RELEASED, the released edge mask of the last UPDATE (10_state.md R27). -/
  released : Mask
  /-- LDT, the NOW of the UPDATE that last changed LRAW (10_state.md R28). -/
  ldt : Time
  /-- PSTART, the NOW of the last commit from idle to active (10_state.md R29). -/
  pstart : Time
  /-- PFINISH, the NOW of the last commit from active to idle (10_state.md R30). -/
  pfinish : Time
  /-- RESULT, the result of the last command (10_state.md R31). -/
  result : ResultWord
  /-- ILL, 1 when the last command word was ILLEGAL (10_state.md R32). -/
  ill : Flag
  /-- The configuration, constant: no step changes it (10_state.md R40; DESIGN CHOICE, log 1). -/
  cfg : Configuration
  /-- The model's own field: the port draws the command in progress sees (10_state.md R39; DESIGN CHOICE, log 6). -/
  ports : Ports
  /-- The model's own field: the events not yet taken, oldest first (20_memory.md R57; DESIGN CHOICE, log 5). -/
  pending : List Event
deriving DecidableEq, Repr

/-- No command raises an exception at execution (60_exceptions.md R200), and an ILLEGAL word is answered by a next state
(R201), so no step ends in a fault: this type has no constructor. Safe: nothing is claimed of a fault. -/
inductive Fault where
deriving DecidableEq, Repr

/-- Why a step has no meaning. -/
inductive Refusal where
  /-- Raised by an arm of `exec` for an instruction without a meaning; no arm raises it. Safe. -/
  | notModelled (mnemonic : String)
  /-- Raised by `step` when the instance's configuration is not well-formed, and by READ_MV and READ_PCT when RATIO_DEN
  is 0: "A model refuses a configuration whose table is not well-formed" (10_state.md R35, 92_eei_decisions.md D25,
  93_implementation_defined.md I8). Safe: nothing is claimed of such an instance. -/
  | illFormedConfiguration
deriving DecidableEq, Repr

/-- The outcome of a step of this machine. -/
abbrev Outcome := Host.Outcome State Fault Refusal

/-- Idle port levels: no analog button (codes at full scale), power pin high, battery port 0. The model's own choice
for the field `ports` at reset (DESIGN CHOICE, log 6), unsafe: no statement rests on it. -/
def Ports.idle : Ports where
  adc1 := 4095
  adc2 := 4095
  pwrN := 1
  batIn := 0

/-- An instance with configuration `c` right after reset: every register at the value of 10_state.md R43. -/
def State.resetWith (c : Configuration) : State where
  lraw := 0x00
  stable := 0x00
  pressed := 0x00
  released := 0x00
  ldt := 0
  pstart := 0
  pfinish := 0
  result := 0
  ill := 0
  cfg := c
  ports := Ports.idle
  pending := []

/-- The machine right after reset (10_state.md R43), with TCFG as its configuration (DESIGN CHOICE, log 2) and no event
presented (log 5). -/
def State.reset : State := State.resetWith Configuration.tcfg

end Sys2Proof.Machine
end

