-- ==== Sys2Proof/Machine/Ops.lean ====
section
/-! DEFINITION. The operations every command shares: the operators of 00_scope.md R9, the two responses of R10 (the
ILLEGAL response is the block's only exception-like outcome; there is no return from it, 60_exceptions.md R206), and
the reset input. -/

namespace Sys2Proof.Machine

/-- `a -_32 b`, subtraction modulo 2^32 (00_scope.md R9). -/
def sub32 (a b : Time) : Time := a - b

/-- `a >u b`, unsigned comparison (00_scope.md R9). -/
def gtu (a b : Time) : Bool := decide (b.toNat < a.toNat)

/-- `floor_div(a, b)`: the greatest q with q * b <= a, for b > 0 (00_scope.md R9). -/
def floorDiv (a b : Int) : Int := a.fdiv b

/-- `clamp(x, lo, hi)` (00_scope.md R9). -/
def clampInt (x lo hi : Int) : Int := if x < lo then lo else if hi < x then hi else x

/-- `zext_32(v)` (00_scope.md R9). -/
def zext32 {n : Nat} (v : BitVec n) : ResultWord := v.setWidth 32

/-- A predicate's result: 1 for true, 0 for false (92_eei_decisions.md D17). -/
def boolResult (b : Bool) : ResultWord := if b then 1 else 0

/-- `respond(v)`: RESULT <- v, ILL <- 0 (00_scope.md R10). -/
def State.respond (s : State) (v : ResultWord) : State := { s with result := v, ill := 0 }

/-- `respond_illegal()`: RESULT <- 0, ILL <- 1, and no other write (00_scope.md R10, 60_exceptions.md R201). -/
def State.respondIllegal (s : State) : State := { s with result := 0, ill := 1 }

/-- The reset input: every register to its value in 10_state.md R43; the configuration stays
(70_reset_and_hazards.md R230). The model's fields `ports` and `pending` are no registers and stay as well. -/
def State.applyReset (s : State) : State :=
  { s with
    lraw := 0x00, stable := 0x00, pressed := 0x00, released := 0x00
    ldt := 0, pstart := 0, pfinish := 0, result := 0, ill := 0 }

/-- What the host reads after a command: RESULT and ILL, and nothing else (10_state.md R41, 30_encoding.md R70). -/
def State.hostView (s : State) : ResultWord × Flag := (s.result, s.ill)

end Sys2Proof.Machine
end

