-- ==== Sys2Proof/Machine/Operands.lean ====
section
/-! DEFINITION. The operands a command reads from outside the registers: the four port primitives (00_scope.md R10,
20_memory.md R54), and the bit an index selects (42_queries_hold_timer.md R150). The operands a command word carries
are assembled by the decoder (30_encoding.md R75). -/

namespace Sys2Proof.Machine

/-- `AdcRead(1)`: the 12-bit code on ADC1; no side effect (20_memory.md R54, R55). -/
def State.adcRead1 (s : State) : AdcCode := s.ports.adc1

/-- `AdcRead(2)`: the 12-bit code on ADC2; no side effect (20_memory.md R54, R55). -/
def State.adcRead2 (s : State) : AdcCode := s.ports.adc2

/-- `PinRead()`: the level of PWR_N; no side effect (20_memory.md R54, R55). -/
def State.pinRead (s : State) : PinLevel := s.ports.pwrN

/-- `BatRead()`: the 16-bit value on BAT_IN; no side effect (20_memory.md R54, R55). -/
def State.batRead (s : State) : BatCode := s.ports.batIn

/-- `BitTest(m, idx)`: bit idx of the mask when idx is at most 7, else 0 (42_queries_hold_timer.md R150). -/
def bitTest (m : Mask) (idx : ButtonIdx) : Bool :=
  if idx.toNat ≤ 7 then m.getLsbD idx.toNat else false

end Sys2Proof.Machine
end

