-- ==== Sys2Proof/Machine/Comparator.lean ====
section
/-! DEFINITION. The multiplexed_threshold_comparator (40_threshold_comparator.md): band decoding, the raw mask, and the
command SAMPLE. -/

namespace Sys2Proof.Machine

/-- The code lies in the band `(lower, upper]`, compared as mathematical integers: the code zero-extended, the entries
sign-extended (40_threshold_comparator.md R100, 00_scope.md R9). -/
def inBand (v : AdcCode) (upper lower : Threshold) : Bool :=
  decide (lower.toInt < (v.toNat : Int)) && decide ((v.toNat : Int) ≤ upper.toInt)

/-- The first band, in table order, that holds the code, bands counted from `i`; `none` is NONE. -/
def bandFrom (v : AdcCode) (i : Nat) : List Threshold → Option Nat
  | upper :: lower :: rest => if inBand v upper lower then some i else bandFrom v (i + 1) (lower :: rest)
  | _ => none

/-- `DecodeBand(v, THR, n)` for a table of n + 1 entries (40_threshold_comparator.md R100). -/
def decodeBand (v : AdcCode) (thr : List Threshold) : Option Nat := bandFrom v 0 thr

/-- The mask bit a channel contributes, its bits starting at `offset`; NONE contributes nothing
(40_threshold_comparator.md R102, R103). -/
def channelMask (offset : Nat) : Option Nat → Mask
  | none => 0x00
  | some band => 0x01#8 <<< (offset + band)

/-- The bit the power pin contributes: active-low, bit 6 (40_threshold_comparator.md R104). -/
def powerMask (pin : PinLevel) : Mask := if pin = 0 then 0x40 else 0x00

/-- The raw mask of three input values (40_threshold_comparator.md R105). -/
def rawMask (c : Configuration) (a1 a2 : AdcCode) (pin : PinLevel) : Mask :=
  channelMask 0 (decodeBand a1 c.thr1.toList) ||| channelMask 4 (decodeBand a2 c.thr2.toList) ||| powerMask pin

/-- `SampleRaw()`: each of the three ports read once (40_threshold_comparator.md R105, 20_memory.md R54). -/
def State.sampleRaw (s : State) : Mask := rawMask s.cfg s.adcRead1 s.adcRead2 s.pinRead

/-- SAMPLE: answer the raw mask; the debouncer is not touched (40_threshold_comparator.md R107). -/
def execSample (s : State) : Outcome := .next (s.respond (zext32 s.sampleRaw))

end Sys2Proof.Machine
end

