-- ==== Sys2Proof/Machine/Flags.lean ====
section
/-! DEFINITION. The flag-like state: the two edge masks (10_state.md R33). This is the edge_detector of 00_scope.md R1.
ILL is written by the two responses of Ops.lean. -/

namespace Sys2Proof.Machine

/-- `raw & ~old` (41_debounce_edge.md R124). -/
def pressedEdges (raw old : Mask) : Mask := raw &&& ~~~old

/-- `old & ~raw` (41_debounce_edge.md R124). -/
def releasedEdges (raw old : Mask) : Mask := old &&& ~~~raw

/-- Step 1 of UPDATE: PRESSED <- 0x00, RELEASED <- 0x00 (41_debounce_edge.md R121). -/
def State.clearEdges (s : State) : State := { s with pressed := 0x00, released := 0x00 }

/-- The edge masks of a commit of `raw`, from the STABLE before it (41_debounce_edge.md R124). -/
def State.setEdges (s : State) (raw : Mask) : State :=
  { s with pressed := pressedEdges raw s.stable, released := releasedEdges raw s.stable }

end Sys2Proof.Machine
end

