-- ==== Sys2Proof/Machine/Debounce.lean ====
section
/-! DEFINITION. UPDATE (41_debounce_edge.md): the debounce_fsm, the edge_detector and the capture side of the
hold_timer_counter, step by step in the order of R120. -/

namespace Sys2Proof.Machine

/-- Step 3 of UPDATE: on any change of the raw mask restart the debounce timer, LDT <- NOW and LRAW <- raw; otherwise
write neither (41_debounce_edge.md R122). -/
def State.noteRaw (s : State) (now : Time) (raw : Mask) : State :=
  if raw ≠ s.lraw then { s with ldt := now, lraw := raw } else s

/-- The commit condition, tested after step 3: `(NOW -_32 LDT) >u DEBOUNCE_DELAY` and `raw != STABLE`
(41_debounce_edge.md R123). -/
def State.commitDue (s : State) (now : Time) (raw : Mask) : Bool :=
  gtu (sub32 now s.ldt) s.cfg.debounceDelay && decide (raw ≠ s.stable)

/-- PSTART <- NOW when something is newly pressed and nothing was held (41_debounce_edge.md R125). `old` is STABLE
before the commit, and PRESSED already holds the commit's edges. -/
def State.captureStart (s : State) (now : Time) (old : Mask) : State :=
  if s.pressed ≠ 0 ∧ old = 0 then { s with pstart := now } else s

/-- PFINISH <- NOW when something is newly released and nothing is held any more (41_debounce_edge.md R126). RELEASED
already holds the commit's edges. -/
def State.captureFinish (s : State) (now : Time) (raw : Mask) : State :=
  if s.released ≠ 0 ∧ raw = 0 then { s with pfinish := now } else s

/-- STABLE <- raw, the end of a commit (41_debounce_edge.md R127). -/
def State.setStable (s : State) (raw : Mask) : State := { s with stable := raw }

/-- A commit of `raw` at `now`: edges, captures, then STABLE (41_debounce_edge.md R120 step 4). -/
def State.commit (s : State) (now : Time) (raw : Mask) : State :=
  (((s.setEdges raw).captureStart now s.stable).captureFinish now raw).setStable raw

/-- Step 4 of UPDATE (41_debounce_edge.md R120). -/
def State.commitIfDue (s : State) (now : Time) (raw : Mask) : State :=
  if s.commitDue now raw then s.commit now raw else s

/-- UPDATE: one poll cycle at time NOW (41_debounce_edge.md R120). RESULT <- 0. -/
def execUpdate (now : Time) (s : State) : Outcome :=
  let cleared := s.clearEdges
  let raw := cleared.sampleRaw
  let noted := cleared.noteRaw now raw
  let committed := noted.commitIfDue now raw
  .next (committed.respond 0)

end Sys2Proof.Machine
end

