-- ==== Sys2Proof/Machine/Queries.lean ====
section
/-! DEFINITION. The queries (42_queries_hold_timer.md): level and edge predicates, the hold timer and the button names.
None of them writes a register other than RESULT and ILL, or reads a port (R159). -/

namespace Sys2Proof.Machine

/-- The LABEL ROM, label ids 0 to 7 (10_state.md R38). -/
def labelRom : List String := ["Back", "Confirm", "Left", "Right", "Up", "Down", "Power", "Unknown"]

/-- The display label the host reads for a label id (10_state.md R38). -/
def labelText (id : ResultWord) : Option String := labelRom[id.toNat]?

/-- The label id of an index: the index itself for 0 to 6, else 7, "Unknown" (42_queries_hold_timer.md R158). -/
def labelId (idx : ButtonIdx) : ResultWord := if idx.toNat ≤ 6 then zext32 idx else 7

/-- The duration of the current hold, or of the last completed one, modulo 2^32 (42_queries_hold_timer.md R156). -/
def State.heldTime (s : State) (now : Time) : ResultWord :=
  if s.stable ≠ 0 then sub32 now s.pstart else sub32 s.pfinish s.pstart

/-- IS_PRESSED (42_queries_hold_timer.md R151). -/
def execIsPressed (idx : ButtonIdx) (s : State) : Outcome := .next (s.respond (boolResult (bitTest s.stable idx)))

/-- WAS_PRESSED (42_queries_hold_timer.md R152). -/
def execWasPressed (idx : ButtonIdx) (s : State) : Outcome := .next (s.respond (boolResult (bitTest s.pressed idx)))

/-- WAS_RELEASED (42_queries_hold_timer.md R153). -/
def execWasReleased (idx : ButtonIdx) (s : State) : Outcome := .next (s.respond (boolResult (bitTest s.released idx)))

/-- WAS_ANY_PRESSED (42_queries_hold_timer.md R154). -/
def execWasAnyPressed (s : State) : Outcome := .next (s.respond (boolResult (decide (s.pressed ≠ 0))))

/-- WAS_ANY_RELEASED (42_queries_hold_timer.md R155). -/
def execWasAnyReleased (s : State) : Outcome := .next (s.respond (boolResult (decide (s.released ≠ 0))))

/-- GET_HELD_TIME at time NOW (42_queries_hold_timer.md R156). -/
def execGetHeldTime (now : Time) (s : State) : Outcome := .next (s.respond (s.heldTime now))

/-- GET_BUTTON_NAME: the label id; no register is read (42_queries_hold_timer.md R158). -/
def execGetButtonName (idx : ButtonIdx) (s : State) : Outcome := .next (s.respond (labelId idx))

end Sys2Proof.Machine
end

