-- ==== Sys2Proof/Machine/Scaler.lean ====
section
/-! DEFINITION. The polynomial_scaler (43_polynomial_scaler.md): the percentage function in its normative integer form
(R181) and in its exact rational form (R180), divider scaling (R184), and the three gauge commands. -/

namespace Sys2Proof.Machine

/-- `P = p * 10^13`, an exact integer (43_polynomial_scaler.md R181). -/
def pctPolynomial (mv : Int) : Int :=
  -1449390 * mv ^ 3 + 16558629000 * mv ^ 2 - 61588520000000 * mv + 75013202000000000

/-- `Pct(mv)` in the integer form the machine runs (43_polynomial_scaler.md R181). -/
def pctInt (mv : Int) : Int :=
  clampInt (floorDiv (pctPolynomial mv + 5000000000000) 10000000000000) 0 100

/-- `zext_32(Pct(mv))` of a 16-bit millivolt value. -/
def pct (mv : Millivolts) : ResultWord := BitVec.ofInt 32 (pctInt mv.toNat)

/-- The cubic over exact rationals, in volts, the coefficients exact decimals (43_polynomial_scaler.md R180,
10_state.md R37). -/
def pctCubic (v : ℚ) : ℚ :=
  -(1449390 / 10000) * v ^ 3 + (16558629 / 10000) * v ^ 2 - (61588520 / 10000) * v + 75013202 / 10000

/-- The nearest integer, a tie going up, for a value that is not negative (43_polynomial_scaler.md R180). -/
def roundHalfAway (c : ℚ) : Int := if c - (⌊c⌋ : ℚ) < 1 / 2 then ⌊c⌋ else ⌊c⌋ + 1

/-- `Pct(mv)` with exact rational arithmetic, clamped before it is rounded (43_polynomial_scaler.md R180). The machine
runs `pctInt`; that the two agree is a statement. -/
def pctRational (mv : Nat) : Int := roundHalfAway (max 0 (min (pctCubic ((mv : ℚ) / 1000)) 100))

/-- `floor_div(b * RATIO_NUM, RATIO_DEN)` saturated to 16 bits (43_polynomial_scaler.md R184). RATIO_DEN is at least 1 in
a well-formed configuration; its callers refuse 0. -/
def scaleMv (c : Configuration) (b : BatCode) : Millivolts :=
  let m := floorDiv ((b.toNat : Int) * (c.ratioNum.toNat : Int)) (c.ratioDen.toNat : Int)
  if 65535 < m then 0xFFFF else BitVec.ofInt 16 m

/-- PCT_FROM_MV (43_polynomial_scaler.md R183). -/
def execPctFromMv (mv : Millivolts) (s : State) : Outcome := .next (s.respond (pct mv))

/-- READ_MV (43_polynomial_scaler.md R185). RATIO_DEN = 0 is an ill-formed configuration (10_state.md R37). -/
def execReadMv (s : State) : Outcome :=
  if s.cfg.ratioDen = 0 then .refused .illFormedConfiguration
  else .next (s.respond (zext32 (scaleMv s.cfg s.batRead)))

/-- READ_PCT: BAT_IN is read once (43_polynomial_scaler.md R186). RATIO_DEN = 0 is an ill-formed configuration
(10_state.md R37). -/
def execReadPct (s : State) : Outcome :=
  if s.cfg.ratioDen = 0 then .refused .illFormedConfiguration
  else .next (s.respond (pct (scaleMv s.cfg s.batRead)))

end Sys2Proof.Machine
end

