-- ==== Sys2Proof/Machine/Dispatch.lean ====
section
/-! DEFINITION. The meaning of each command: one arm per row of the opcode map (30_encoding.md R72). -/

namespace Sys2Proof.Machine

def exec (i : Instr) (s : State) : Host.Outcome State Fault Refusal :=
  match i with
  | .sample => Sys2Proof.Machine.execSample s
  | .update now => Sys2Proof.Machine.execUpdate now s
  | .isPressed idx => Sys2Proof.Machine.execIsPressed idx s
  | .wasPressed idx => Sys2Proof.Machine.execWasPressed idx s
  | .wasReleased idx => Sys2Proof.Machine.execWasReleased idx s
  | .wasAnyPressed => Sys2Proof.Machine.execWasAnyPressed s
  | .wasAnyReleased => Sys2Proof.Machine.execWasAnyReleased s
  | .getHeldTime now => Sys2Proof.Machine.execGetHeldTime now s
  | .getButtonName idx => Sys2Proof.Machine.execGetButtonName idx s
  | .pctFromMv mv => Sys2Proof.Machine.execPctFromMv mv s
  | .readMv => Sys2Proof.Machine.execReadMv s
  | .readPct => Sys2Proof.Machine.execReadPct s

end Sys2Proof.Machine
end

