-- ==== Sys2Proof/Machine/Transaction.lean ====
section
/-! DEFINITION. One transaction on the command interface (30_encoding.md R70), the reset input (70_reset_and_hazards.md
R230), and how a table word is presented. Step.lean only calls these. -/

namespace Sys2Proof.Machine

/-- Decode, then execute whole, or answer ILLEGAL with no other effect (30_encoding.md R70, R76, 60_exceptions.md R201,
R203). -/
def transact (cmd : CmdWord) (opnd : Operand) (s : State) : Outcome :=
  match decode cmd opnd with
  | .command i => exec i s
  | .illegal _ => .next s.respondIllegal

/-- The state in which a command runs: its draws on the ports, the later events still pending. -/
def State.present (s : State) (draws : Ports) (later : List Event) : State :=
  { s with ports := draws, pending := later }

/-- One event, taken whole before the next is accepted (20_memory.md R56, R57). -/
def takeEvent (e : Event) (later : List Event) (s : State) : Outcome :=
  match e with
  | .command cmd opnd draws => transact cmd opnd (s.present draws later)
  | .reset => .next (s.present s.ports later).applyReset

/-- The next step of an instance. An ill-formed configuration is refused (10_state.md R35, 70_reset_and_hazards.md R233;
log 4). With no event presented the block does nothing: it "takes no step of its own" (00_scope.md R5; DESIGN CHOICE,
log 7). -/
def nextStep (s : State) : Outcome :=
  if s.cfg.wellFormed then
    match s.pending with
    | [] => .next s
    | e :: later => takeEvent e later s
  else .refused .illFormedConfiguration

/-- The instance with a table word presented as its next command, seeing the port values `s.ports`; the events that were
pending come after it (log 5). -/
def State.presentWord (s : State) (nbits w : Nat) : State :=
  { s with pending := .command (tableCmd nbits w) (tableOpnd nbits w) s.ports :: s.pending }

end Sys2Proof.Machine
end

