-- ==== Sys2Proof/Machine/Step.lean ====
section
/-! DEFINITION. The step of the machine, and where it takes its next command from. -/

namespace Sys2Proof.Machine

/-- One step: the oldest pending event, whole (00_scope.md R5, 20_memory.md R56). -/
def step (s : State) : Host.Outcome State Fault Refusal := nextStep s

/-- `s` with the table word presented as the very next command (30_encoding.md R70; log 5). -/
def State.withFetchWord (s : State) (nbits w : Nat) : State := s.presentWord nbits w

end Sys2Proof.Machine
end

