-- ==== Sys2Proof/Machine/Assembler.lean ====
section
/-! DEFINITION. The assembler (30_encoding.md R79 to R81): one command per line, the pseudo-instruction NOP and the
symbolic indices. What the spec does not say of the spelling is fixed here (DESIGN CHOICE, log 12). -/

namespace Sys2Proof.Machine

/-- What a line assembles to. -/
inductive AsmLine where
  /-- An empty line, or a comment alone. -/
  | blank
  /-- A command word and its operand. -/
  | word (cmd : CmdWord) (opnd : Operand)
  /-- The assembler refuses the line. -/
  | refused
deriving DecidableEq, Repr

/-- The mnemonics as the spec spells them (00_scope.md R2, 30_encoding.md R72). -/
def mnemonicTable : List (String × Mnemonic) :=
  [("SAMPLE", .sample), ("UPDATE", .update), ("IS_PRESSED", .isPressed), ("WAS_PRESSED", .wasPressed),
   ("WAS_RELEASED", .wasReleased), ("WAS_ANY_PRESSED", .wasAnyPressed), ("WAS_ANY_RELEASED", .wasAnyReleased),
   ("GET_HELD_TIME", .getHeldTime), ("GET_BUTTON_NAME", .getButtonName), ("PCT_FROM_MV", .pctFromMv),
   ("READ_MV", .readMv), ("READ_PCT", .readPct)]

/-- NOP assembles to SAMPLE (30_encoding.md R80). -/
def pseudoTable : List (String × Mnemonic) := [("NOP", .sample)]

/-- The symbolic indices (30_encoding.md R81). -/
def indexNames : List (String × Nat) :=
  [("BACK", 0), ("CONFIRM", 1), ("LEFT", 2), ("RIGHT", 3), ("UP", 4), ("DOWN", 5), ("POWER", 6)]

/-- The entry of a table under a word. -/
def lookupWord {α : Type} (w : List Char) : List (String × α) → Option α
  | [] => none
  | (name, a) :: rest => if name.toList = w then some a else lookupWord w rest

/-- The line up to a comment (30_encoding.md R79). -/
def dropComment (line : List Char) : List Char := line.takeWhile (fun c => c ≠ ';')

/-- The words of a line, split at spaces and tabs; an empty word stands between two separators. -/
def splitSpaces : List Char → List (List Char)
  | [] => [[]]
  | c :: cs =>
    if c = ' ' ∨ c = '\t' then [] :: splitSpaces cs
    else
      match splitSpaces cs with
      | [] => [[c]]
      | w :: ws => (c :: w) :: ws

/-- The words of a line. -/
def lineWords (line : List Char) : List (List Char) := (splitSpaces (dropComment line)).filter (fun w => w ≠ [])

/-- The value of a digit, decimal or hexadecimal (either case). -/
def digitValue (c : Char) : Option Nat :=
  let n := c.toNat
  if 48 ≤ n ∧ n ≤ 57 then some (n - 48)
  else if 65 ≤ n ∧ n ≤ 70 then some (n - 55)
  else if 97 ≤ n ∧ n ≤ 102 then some (n - 87)
  else none

/-- The number a row of digits stands for in a base. -/
def digitsValue (base acc : Nat) : List Char → Option Nat
  | [] => some acc
  | c :: cs =>
    match digitValue c with
    | some d => if d < base then digitsValue base (acc * base + d) cs else none
    | none => none

/-- "Numbers are decimal, or hexadecimal with `0x`" (30_encoding.md R79). -/
def numberOf : List Char → Option Nat
  | [] => none
  | '0' :: 'x' :: [] => none
  | '0' :: 'x' :: d :: ds => digitsValue 16 0 (d :: ds)
  | d :: ds => digitsValue 10 0 (d :: ds)

/-- The argument of a command: a number, or a symbolic index where the class is I (30_encoding.md R79, R81). -/
def argumentOf (m : Mnemonic) (w : List Char) : Option Nat :=
  match m.operandClass, lookupWord w indexNames with
  | .index, some n => some n
  | _, _ => numberOf w

/-- The instruction of an assembler command in range, `none` where the assembler refuses it (30_encoding.md R79; log 12
for an argument too few or too many). -/
def asmInstr (c : AsmCommand) : Option Instr :=
  if c.wellFormed then
    some (assembleInstr c.mnemonic (BitVec.ofNat 8 (c.arg.getD 0)) (BitVec.ofNat 32 (c.arg.getD 0)))
  else none

/-- The word and operand of an assembler command; OPND is 0 for the classes N and I (30_encoding.md R79). -/
def assembleCommand (c : AsmCommand) : AsmLine :=
  match asmInstr c with
  | some i => .word (encode i).1 (encode i).2
  | none => .refused

/-- The mnemonic of a word, in any case of its letters (30_encoding.md R79). -/
def mnemonicOf (w : List Char) : Option Mnemonic :=
  let u := w.map Char.toUpper
  match lookupWord u mnemonicTable with
  | some m => some m
  | none => lookupWord u pseudoTable

/-- Assemble one line (30_encoding.md R79). -/
def assembleLine (line : List Char) : AsmLine :=
  match lineWords line with
  | [] => .blank
  | m :: args =>
    match mnemonicOf m, args with
    | some mn, [] => assembleCommand ⟨mn, none⟩
    | some mn, [a] =>
      match argumentOf mn a with
      | some n => assembleCommand ⟨mn, some n⟩
      | none => .refused
    | _, _ => .refused

end Sys2Proof.Machine
end

