-- ==== Sys2Proof/Machine/Instances.lean ====
section
/-! DEFINITION. Several instances on one platform (20_memory.md R63, 60_exceptions.md R211): each with its own state and
configuration, sharing nothing. -/

namespace Sys2Proof.Machine

/-- One step of instance `k` of a platform: no other instance is read or written (20_memory.md R63). A number that names
no instance changes nothing (DESIGN CHOICE, log 10). -/
def stepInstance (k : Nat) (platform : List State) : Host.Outcome (List State) Fault Refusal :=
  match platform[k]? with
  | none => .next platform
  | some s =>
    match step s with
    | .next t => .next (platform.set k t)
    | .fault f => .fault f
    | .refused r => .refused r

end Sys2Proof.Machine
end

