-- ==== Sys2Proof/Safety.lean ====
section
/-! DEFINITION. The terms in which claims are stated: the register invariants of 10_state.md R42, the control states of
the debounce FSM (41_debounce_edge.md R128), runs of UPDATE commands, and what a command reads. -/

namespace Sys2Proof.Machine

/-- At most one of bits 0 to 3 and at most one of bits 4 and 5 is set, and bit 7 is 0 (10_state.md R42,
40_threshold_comparator.md R106). -/
def RawShape (m : Mask) : Prop :=
  m.getLsbD 7 = false ∧
  (∀ i j : Nat, i < 4 → j < 4 → m.getLsbD i = true → m.getLsbD j = true → i = j) ∧
  ¬ (m.getLsbD 4 = true ∧ m.getLsbD 5 = true)

/-- The register invariants of 10_state.md R42, but for its last bullet, which speaks of the last UPDATE. -/
structure ButtonInvariant (s : State) : Prop where
  lraw_shape : RawShape s.lraw
  stable_shape : RawShape s.stable
  pressed_bit7 : s.pressed.getLsbD 7 = false
  released_bit7 : s.released.getLsbD 7 = false
  pressed_released : s.pressed &&& s.released = 0
  pressed_stable : s.pressed &&& ~~~s.stable = 0
  released_stable : s.released &&& s.stable = 0

/-- The control states of the debounce FSM (41_debounce_edge.md R128). -/
inductive FsmState where
  /-- LRAW == STABLE. -/
  | settled
  /-- LRAW != STABLE, the timer started at LDT. -/
  | pending
deriving DecidableEq, Repr

/-- The pair (LRAW, STABLE) read as a control state (41_debounce_edge.md R128). -/
def State.fsm (s : State) : FsmState := if s.lraw = s.stable then .settled else .pending

/-- The raw mask a set of port values gives in an instance (40_threshold_comparator.md R105). -/
def State.rawOf (s : State) (p : Ports) : Mask := rawMask s.cfg p.adc1 p.adc2 p.pwrN

/-- The state with a run of UPDATE commands presented, each with its NOW and its port draws, in order. -/
def State.withUpdates (s : State) (polls : List (Time × Ports)) : State :=
  { s with pending := polls.map (fun p => Event.command (encode (.update p.1)).1 (encode (.update p.1)).2 p.2) }

/-- The queries of 42_queries_hold_timer.md R159. -/
def isQuery : Instr → Bool
  | .isPressed _ => true
  | .wasPressed _ => true
  | .wasReleased _ => true
  | .wasAnyPressed => true
  | .wasAnyReleased => true
  | .getHeldTime _ => true
  | .getButtonName _ => true
  | .sample => false
  | .update _ => false
  | .pctFromMv _ => false
  | .readMv => false
  | .readPct => false

/-- The commands that read ADC1, ADC2 and PWR_N (20_memory.md R54). -/
def readsButtons : Instr → Bool
  | .sample => true
  | .update _ => true
  | .isPressed _ => false
  | .wasPressed _ => false
  | .wasReleased _ => false
  | .wasAnyPressed => false
  | .wasAnyReleased => false
  | .getHeldTime _ => false
  | .getButtonName _ => false
  | .pctFromMv _ => false
  | .readMv => false
  | .readPct => false

/-- The commands that read BAT_IN (20_memory.md R54). -/
def readsBattery : Instr → Bool
  | .readMv => true
  | .readPct => true
  | .sample => false
  | .update _ => false
  | .isPressed _ => false
  | .wasPressed _ => false
  | .wasReleased _ => false
  | .wasAnyPressed => false
  | .wasAnyReleased => false
  | .getHeldTime _ => false
  | .getButtonName _ => false
  | .pctFromMv _ => false

/-- Two states agree on the seven registers of the document's data model (10_state.md R24 to R30). -/
def SameButtonState (s t : State) : Prop :=
  t.lraw = s.lraw ∧ t.stable = s.stable ∧ t.pressed = s.pressed ∧ t.released = s.released ∧
  t.ldt = s.ldt ∧ t.pstart = s.pstart ∧ t.pfinish = s.pfinish

end Sys2Proof.Machine
end

