-- ==== Sys2Proof/Certificates/Slice0/Obligations.lean ====
section
/-! DEFINITION. The statements for the provers. Each docstring names the rule of spec/ it formalises, or says that it is
derived. No statement rests on a value the model chose, but where its docstring says so. -/

open Sys2Proof Sys2Proof.Machine

/-! ### Encoding -/

/-- Decoding the encoding of any instruction gives it back, every operand at every value (30_encoding.md R72, R75, R76). -/
def Obligations.DecodeOfEncodeIsTheInstruction : Prop :=
  ∀ i : Instr, i.wellFormed = true → decode (encode i).1 (encode i).2 = .command i

/-- A legal pair (CMD, OPND) is the encoding of the instruction it decodes to, up to an OPND that its class ignores. -/
def Obligations.LegalPairIsAnEncoding : Prop :=
  ∀ (cmd : CmdWord) (opnd : Operand) (i : Instr), decode cmd opnd = .command i →
    (encode i).1 = cmd ∧
    (i.mnemonic.operandClass = .time ∨ i.mnemonic.operandClass = .millivolts → (encode i).2 = opnd)

/-- 60_exceptions.md R202: the four causes of ILLEGAL, exactly, and the one response they share. -/
def Obligations.IllegalExactlyOnTheFourCauses : Prop :=
  ∀ (cmd : CmdWord) (opnd : Operand),
    (isIllegal cmd opnd = true ↔
      12 ≤ cmd.toNat / 4096 ∨
      cmd.toNat / 256 % 16 ≠ 0 ∨
      (cmd.toNat / 4096 ∈ [0x0, 0x1, 0x5, 0x6, 0x7, 0x9, 0xA, 0xB] ∧ cmd.toNat % 256 ≠ 0) ∨
      (cmd.toNat / 4096 = 0x9 ∧ opnd.toNat / 65536 ≠ 0)) ∧
    (isIllegal cmd opnd = true → ∀ s : State, ∃ t : State, transact cmd opnd s = .next t ∧ t.ill = 1 ∧ t.result = 0)

/-- 30_encoding.md R72: the opcode map, and "A CMD value selects a command iff (CMD & mask) == match for that command's
row"; at most one row matches. -/
def Obligations.RowSelectsItsCommand : Prop :=
  let rows : List (Mnemonic × CmdWord × CmdWord) :=
    [(.sample, 0x0000, 0xFFFF), (.update, 0x1000, 0xFFFF), (.isPressed, 0x2000, 0xFF00), (.wasPressed, 0x3000, 0xFF00),
     (.wasReleased, 0x4000, 0xFF00), (.wasAnyPressed, 0x5000, 0xFFFF), (.wasAnyReleased, 0x6000, 0xFFFF),
     (.getHeldTime, 0x7000, 0xFFFF), (.getButtonName, 0x8000, 0xFF00), (.pctFromMv, 0x9000, 0xFFFF),
     (.readMv, 0xA000, 0xFFFF), (.readPct, 0xB000, 0xFFFF)]
  (∀ m : Mnemonic, ∃ r ∈ rows, r.1 = m) ∧
  (∀ r ∈ rows, ∀ cmd : CmdWord,
    cmd &&& r.2.2 = r.2.1 ↔ ∃ (opnd : Operand) (i : Instr), decode cmd opnd = .command i ∧ i.mnemonic = r.1) ∧
  (∀ r ∈ rows, ∀ q ∈ rows, ∀ cmd : CmdWord, cmd &&& r.2.2 = r.2.1 → cmd &&& q.2.2 = q.2.1 → r = q)

/-- 30_encoding.md R73: a word with a non-zero RSV is ILLEGAL whatever its OP. -/
def Obligations.ReservedFieldIsIllegal : Prop :=
  ∀ (cmd : CmdWord) (opnd : Operand), cmd.toNat / 256 % 16 ≠ 0 →
    isIllegal cmd opnd = true ∧ ∀ s : State, transact cmd opnd s = .next { s with result := 0, ill := 1 }

/-- 30_encoding.md R77: with OPND = 0, 1,032 command words are legal and 64,504 are ILLEGAL; 0xC000 and above always. -/
def Obligations.CountOfLegalWords : Prop :=
  ((List.range 65536).countP (fun n => !isIllegal (BitVec.ofNat 16 n) 0)) = 1032 ∧
  ((List.range 65536).countP (fun n => isIllegal (BitVec.ofNat 16 n) 0)) = 64504 ∧
  ∀ (cmd : CmdWord) (opnd : Operand), 0xC000 ≤ cmd.toNat → isIllegal cmd opnd = true

/-- 30_encoding.md R75: OPND of a class N or class I word changes nothing. -/
def Obligations.OperandIgnoredByClassesNAndI : Prop :=
  ∀ (cmd : CmdWord) (m : Mnemonic), selectMnemonic (cmdOp cmd) = some m →
    m.operandClass = .noArgument ∨ m.operandClass = .index →
    ∀ (opnd opnd' : Operand) (s : State), transact cmd opnd s = transact cmd opnd' s

/-- Some words written out from the encodings of 30_encoding.md R72 decode to the commands they stand for. -/
def Obligations.SampleWordsDecode : Prop :=
  decode 0b0000000000000000 0 = .command .sample ∧
  decode 0b0001000000000000 0xFFFFFFFF = .command (.update 0xFFFFFFFF) ∧
  decode 0b0010000000000110 0 = .command (.isPressed 6) ∧
  decode 0b1000000011111111 0 = .command (.getButtonName 255) ∧
  decode 0b1001000000000000 0x0000FFFF = .command (.pctFromMv 65535) ∧
  decode 0b1001000000000000 0x00010000 = .illegal .millivoltsOutOfRange ∧
  decode 0b1011000000000000 0 = .command .readPct

/-! ### The step -/

/-- A step runs the command that the oldest pending word decodes to, on the ports that word's event draws, and leaves the
later events pending (30_encoding.md R70, 20_memory.md R57; the list of events is the model's, log 5). -/
def Obligations.StepRunsTheDecodedCommand : Prop :=
  ∀ (s : State) (cmd : CmdWord) (opnd : Operand) (draws : Ports) (later : List Event) (i : Instr),
    s.cfg.wellFormed = true → s.pending = .command cmd opnd draws :: later → decode cmd opnd = .command i →
    i.wellFormed = true → step s = exec i { s with ports := draws, pending := later }

/-- A table word presented by `withFetchWord` is the command the next step runs (log 5). -/
def Obligations.PresentedWordRunsNext : Prop :=
  ∀ (s : State) (nbits w : Nat) (i : Instr), s.cfg.wellFormed = true → decodeTableWord nbits w = some i →
    step (s.withFetchWord nbits w) = exec i s

/-- 60_exceptions.md R201: an ILLEGAL word writes RESULT <- 0 and ILL <- 1 and no other register, and the next legal
command clears ILL. -/
def Obligations.IllegalWordWritesOnlyTheResponse : Prop :=
  (∀ (s : State) (cmd : CmdWord) (opnd : Operand) (draws : Ports) (later : List Event),
    s.cfg.wellFormed = true → s.pending = .command cmd opnd draws :: later → isIllegal cmd opnd = true →
    step s = .next { s with result := 0, ill := 1, ports := draws, pending := later }) ∧
  (∀ (i : Instr) (s t : State), exec i s = .next t → t.ill = 0)

/-- The reset input sets every register to its reset value and leaves the configuration (70_reset_and_hazards.md R230).
That `ports` and the later events stay is the model's choice (log 6, log 5). -/
def Obligations.ResetInputRestoresEveryRegister : Prop :=
  ∀ (s : State) (later : List Event), s.cfg.wellFormed = true → s.pending = .reset :: later →
    step s = .next
      { lraw := 0, stable := 0, pressed := 0, released := 0, ldt := 0, pstart := 0, pfinish := 0, result := 0, ill := 0,
        cfg := s.cfg, ports := s.ports, pending := later }

/-- 10_state.md R43: the reset value of every register, for every configuration. -/
def Obligations.ResetValuesOfEveryRegister : Prop :=
  (∀ c : Configuration, ∃ (p : Ports) (evs : List Event), State.resetWith c =
    { lraw := 0, stable := 0, pressed := 0, released := 0, ldt := 0, pstart := 0, pfinish := 0, result := 0, ill := 0,
      cfg := c, ports := p, pending := evs }) ∧
  ∃ c : Configuration, State.reset = State.resetWith c

/-- With no event presented the block takes no step of its own: nothing changes (00_scope.md R5; the model's choice,
log 7). -/
def Obligations.NothingPresentedChangesNothing : Prop :=
  ∀ s : State, s.cfg.wellFormed = true → s.pending = [] → step s = .next s

/-- 10_state.md R35: the step refuses an instance exactly when its configuration is not well-formed (THR1 and THR2
strictly decreasing; and RATIO_DEN at least 1, R37), while the band decode still answers on any table. -/
def Obligations.IllFormedConfigurationIsRefused : Prop :=
  (∀ s : State, step s = .refused .illFormedConfiguration ↔
    ¬ ((s.cfg.thr1[1].toInt < s.cfg.thr1[0].toInt ∧ s.cfg.thr1[2].toInt < s.cfg.thr1[1].toInt ∧
        s.cfg.thr1[3].toInt < s.cfg.thr1[2].toInt ∧ s.cfg.thr1[4].toInt < s.cfg.thr1[3].toInt) ∧
       (s.cfg.thr2[1].toInt < s.cfg.thr2[0].toInt ∧ s.cfg.thr2[2].toInt < s.cfg.thr2[1].toInt) ∧
       1 ≤ s.cfg.ratioDen.toNat)) ∧
  (∀ (v : AdcCode) (thr : List Threshold), decodeBand v thr = none ∨ ∃ i, i + 1 < thr.length ∧ decodeBand v thr = some i)

/-- Every step of an instance with a well-formed configuration answers a next state: no command raises an exception
(60_exceptions.md R200), and an ILLEGAL word, a reset and the absence of an event are answered too. -/
def Obligations.WellFormedInstanceAlwaysAnswers : Prop :=
  ∀ s : State, s.cfg.wellFormed = true → ∃ t : State, step s = .next t

/-- No step changes the configuration (10_state.md R40). -/
def Obligations.StepNeverWritesConfiguration : Prop :=
  ∀ s t : State, step s = .next t → t.cfg = s.cfg

/-- The register invariants of 10_state.md R42 are kept by every step, from every state that has them. -/
def Obligations.EveryStepKeepsTheButtonInvariant : Prop :=
  ∀ s t : State, ButtonInvariant s → step s = .next t → ButtonInvariant t

/-- The register invariants of 10_state.md R42 hold after reset, whatever the configuration. -/
def Obligations.ResetHasTheButtonInvariant : Prop :=
  (∀ c : Configuration, ButtonInvariant (State.resetWith c)) ∧ ButtonInvariant State.reset

/-- The seven registers of the document's data model change only on an UPDATE command or a reset (00_scope.md R5). -/
def Obligations.OnlyUpdateOrResetChangesButtonState : Prop :=
  ∀ s t : State, step s = .next t →
    (∀ (cmd : CmdWord) (opnd : Operand) (draws : Ports) (later : List Event) (now : Time),
      s.pending = .command cmd opnd draws :: later → decode cmd opnd ≠ .command (.update now)) →
    (∀ later : List Event, s.pending ≠ .reset :: later) →
    SameButtonState s t

/-! ### The threshold comparator and SAMPLE -/

/-- 40_threshold_comparator.md R100: the band decode answers the first band, in table order, whose interval holds the
code, and NONE when there is none; the comparisons are on mathematical integers. -/
def Obligations.DecodeBandAnswersTheFirstHoldingBand : Prop :=
  ∀ (v : AdcCode) (thr : List Threshold),
    let holds := fun i : Nat => i + 1 < thr.length ∧ (thr.getD (i + 1) 0).toInt < (v.toNat : Int) ∧
      (v.toNat : Int) ≤ (thr.getD i 0).toInt
    (∀ i : Nat, decodeBand v thr = some i ↔ holds i ∧ ∀ j, j < i → ¬ holds j) ∧
    (decodeBand v thr = none ↔ ∀ i, ¬ holds i)

/-- On a strictly decreasing table the bands are disjoint and cover exactly `(THR[n], THR[0]]`
(40_threshold_comparator.md R101). -/
def Obligations.BandsPartitionTheTable : Prop :=
  ∀ (v : AdcCode) (thr : List Threshold), 2 ≤ thr.length → strictlyDecreasing thr = true →
    let holds := fun i : Nat => i + 1 < thr.length ∧ (thr.getD (i + 1) 0).toInt < (v.toNat : Int) ∧
      (v.toNat : Int) ≤ (thr.getD i 0).toInt
    let top := (thr.getD 0 0).toInt
    let sentinel := (thr.getD (thr.length - 1) 0).toInt
    (top < (v.toNat : Int) → decodeBand v thr = none) ∧
    ((v.toNat : Int) ≤ sentinel → decodeBand v thr = none) ∧
    (sentinel < (v.toNat : Int) → (v.toNat : Int) ≤ top → ∃ i, decodeBand v thr = some i ∧ holds i) ∧
    (∀ i j, holds i → holds j → i = j)

/-- 40_threshold_comparator.md R102, R103, R104: which input sets which bit of the sampled mask; bit 7 is 0. -/
def Obligations.SampledMaskBits : Prop :=
  ∀ s : State,
    let c1 := decodeBand s.ports.adc1 s.cfg.thr1.toList
    let c2 := decodeBand s.ports.adc2 s.cfg.thr2.toList
    (∀ i, i < 4 → (s.sampleRaw.getLsbD i = true ↔ c1 = some i)) ∧
    (∀ j, j < 2 → (s.sampleRaw.getLsbD (4 + j) = true ↔ c2 = some j)) ∧
    (s.sampleRaw.getLsbD 6 = true ↔ s.ports.pwrN = 0) ∧
    s.sampleRaw.getLsbD 7 = false

/-- 40_threshold_comparator.md R106: the shape of a raw mask, and the 30 possible ones. -/
def Obligations.ThirtyPossibleRawMasks : Prop :=
  let masks : List Mask := [0x00, 0x01, 0x02, 0x04, 0x08].flatMap fun a =>
    [0x00, 0x10, 0x20].flatMap fun b => [0x00, 0x40].map fun p => a ||| b ||| p
  masks.length = 30 ∧ masks.Nodup ∧
  (∀ (c : Configuration) (a1 a2 : AdcCode) (pin : PinLevel),
    rawMask c a1 a2 pin ∈ masks ∧ RawShape (rawMask c a1 a2 pin) ∧
    ((List.range 8).countP fun k => (rawMask c a1 a2 pin).getLsbD k) ≤ 3) ∧
  (∀ m ∈ masks, ∃ (c : Configuration) (a1 a2 : AdcCode) (pin : PinLevel),
    c.wellFormed = true ∧ rawMask c a1 a2 pin = m)

/-- SAMPLE answers the raw mask of the ports it sees and writes no other register (40_threshold_comparator.md R107). -/
def Obligations.SampleAnswersTheRawMask : Prop :=
  ∀ s : State, exec .sample s =
    .next { s with result := (rawMask s.cfg s.ports.adc1 s.ports.adc2 s.ports.pwrN).setWidth 32, ill := 0 }

/-! ### UPDATE -/

/-- 41_debounce_edge.md R121 to R126: the whole effect of UPDATE, as one of three cases; every register not named
keeps its value. -/
def Obligations.UpdateFollowsThePollCycleRules : Prop :=
  ∀ (now : Time) (s : State),
    let raw := rawMask s.cfg s.ports.adc1 s.ports.adc2 s.ports.pwrN
    (raw ≠ s.lraw →
      exec (.update now) s =
        .next { s with lraw := raw, ldt := now, pressed := 0, released := 0, result := 0, ill := 0 }) ∧
    (raw = s.lraw → s.cfg.debounceDelay.toNat < (now - s.ldt).toNat → raw ≠ s.stable →
      exec (.update now) s =
        .next { s with pressed := raw &&& ~~~s.stable, released := s.stable &&& ~~~raw, stable := raw,
                       pstart := if s.stable = 0 then now else s.pstart,
                       pfinish := if raw = 0 then now else s.pfinish, result := 0, ill := 0 }) ∧
    (raw = s.lraw → ¬ (s.cfg.debounceDelay.toNat < (now - s.ldt).toNat ∧ raw ≠ s.stable) →
      exec (.update now) s = .next { s with pressed := 0, released := 0, result := 0, ill := 0 })

/-- 41_debounce_edge.md R128: the six transitions of the debounce FSM, and SETTLED after reset. -/
def Obligations.DebounceFsmTransitions : Prop :=
  (∀ (now : Time) (s : State),
    let raw := rawMask s.cfg s.ports.adc1 s.ports.adc2 s.ports.pwrN
    let late := s.cfg.debounceDelay.toNat < (now - s.ldt).toNat
    let quiet : State := { s with pressed := 0, released := 0, result := 0, ill := 0 }
    ∃ t : State, exec (.update now) s = .next t ∧
      (s.fsm = .settled → raw = s.lraw → t = quiet ∧ t.fsm = .settled) ∧
      (s.fsm = .settled → raw ≠ s.lraw → t = { quiet with lraw := raw, ldt := now } ∧ t.fsm = .pending) ∧
      (s.fsm = .pending → raw ≠ s.lraw → raw ≠ s.stable →
        t = { quiet with lraw := raw, ldt := now } ∧ t.fsm = .pending) ∧
      (s.fsm = .pending → raw ≠ s.lraw → raw = s.stable →
        t = { quiet with lraw := raw, ldt := now } ∧ t.fsm = .settled) ∧
      (s.fsm = .pending → raw = s.lraw → ¬ late → t = quiet ∧ t.fsm = .pending) ∧
      (s.fsm = .pending → raw = s.lraw → late →
        t = { quiet with pressed := raw &&& ~~~s.stable, released := s.stable &&& ~~~raw, stable := raw,
                         pstart := if s.stable = 0 then now else s.pstart,
                         pfinish := if raw = 0 then now else s.pfinish } ∧ t.fsm = .settled)) ∧
  (∀ c : Configuration, (State.resetWith c).fsm = .settled)

/-- The last bullet of 10_state.md R42: PRESSED | RELEASED is non-zero exactly after an UPDATE that committed. -/
def Obligations.EdgeMasksMarkExactlyTheCommits : Prop :=
  ∀ (now : Time) (s t : State), exec (.update now) s = .next t →
    (t.pressed ||| t.released ≠ 0 ↔
      s.sampleRaw = s.lraw ∧ s.cfg.debounceDelay.toNat < (now - s.ldt).toNat ∧ s.sampleRaw ≠ s.stable)

/-- 41_debounce_edge.md R134: each edge bit comes from that button's bits alone. -/
def Obligations.EdgeBitsAreLaneWise : Prop :=
  ∀ (now : Time) (s t : State), exec (.update now) s = .next t →
    s.sampleRaw = s.lraw → s.cfg.debounceDelay.toNat < (now - s.ldt).toNat → s.sampleRaw ≠ s.stable →
    ∀ k, k < 8 →
      (t.pressed.getLsbD k = (s.sampleRaw.getLsbD k && !s.stable.getLsbD k)) ∧
      (t.released.getLsbD k = (s.stable.getLsbD k && !s.sampleRaw.getLsbD k))

/-- Commit latency (41_debounce_edge.md R130): with LRAW = r since LDT and every poll sampling r, no poll at or before
LDT + DEBOUNCE_DELAY commits, and the first one after it does. -/
def Obligations.CommitLatencyOfASteadyInput : Prop :=
  ∀ (s : State) (polls : List (Time × Ports)) (now : Time) (p : Ports),
    s.cfg.wellFormed = true → s.lraw ≠ s.stable →
    (∀ q ∈ polls, s.rawOf q.2 = s.lraw ∧ (q.1 - s.ldt).toNat ≤ s.cfg.debounceDelay.toNat) →
    s.rawOf p = s.lraw → s.cfg.debounceDelay.toNat < (now - s.ldt).toNat →
    (∃ t : State, Sys2Proof.core.run polls.length (s.withUpdates (polls ++ [(now, p)])) = .next t ∧
      t.stable = s.stable ∧ t.lraw = s.lraw ∧ t.ldt = s.ldt ∧ t.pstart = s.pstart ∧ t.pfinish = s.pfinish) ∧
    (∃ u : State, Sys2Proof.core.run (polls.length + 1) (s.withUpdates (polls ++ [(now, p)])) = .next u ∧
      u.stable = s.lraw ∧ u.pressed = s.lraw &&& ~~~s.stable ∧ u.released = s.stable &&& ~~~s.lraw ∧
      u.ldt = s.ldt ∧ u.pstart = (if s.stable = 0 then now else s.pstart) ∧
      u.pfinish = (if s.lraw = 0 then now else s.pfinish))

/-- Bounce rejection (41_debounce_edge.md R131): from a settled state, a change at `t0`, whatever is sampled while not
more than DEBOUNCE_DELAY has passed since `t0`, and a return to the stable mask never commit. -/
def Obligations.BounceWithinTheWindowNeverCommits : Prop :=
  ∀ (s : State) (t0 t1 : Time) (p0 p1 : Ports) (bounce : List (Time × Ports)),
    s.cfg.wellFormed = true → s.lraw = s.stable → s.rawOf p0 ≠ s.stable → s.rawOf p1 = s.stable →
    (∀ q ∈ bounce, (q.1 - t0).toNat ≤ s.cfg.debounceDelay.toNat) →
    bounce.Pairwise (fun q r => (q.1 - t0).toNat ≤ (r.1 - t0).toNat) →
    ∀ n, n ≤ bounce.length + 2 →
      ∃ t : State, Sys2Proof.core.run n (s.withUpdates ((t0, p0) :: bounce ++ [(t1, p1)])) = .next t ∧
        t.stable = s.stable ∧ t.pstart = s.pstart ∧ t.pfinish = s.pfinish ∧
        (0 < n → t.pressed = 0 ∧ t.released = 0) ∧ (n = bounce.length + 2 → t.fsm = .settled)

/-- An unchanging input (41_debounce_edge.md R132): over polls that all sample r, LDT is written at most once, at the
first and only if r differs from LRAW; STABLE takes r at most once and then no poll changes it or shows an edge. -/
def Obligations.UnchangingInputCommitsAtMostOnce : Prop :=
  ∀ (s : State) (r : Mask) (now : Time) (p : Ports) (polls : List (Time × Ports)),
    s.cfg.wellFormed = true → (∀ q ∈ (now, p) :: polls, s.rawOf q.2 = r) →
    ∀ n, 0 < n → n ≤ polls.length + 1 →
      ∃ t : State, Sys2Proof.core.run n (s.withUpdates ((now, p) :: polls)) = .next t ∧
        t.lraw = r ∧ t.ldt = (if r = s.lraw then s.ldt else now) ∧ (t.stable = s.stable ∨ t.stable = r) ∧
        (∀ k, 0 < k → k < n → ∀ u : State,
          Sys2Proof.core.run k (s.withUpdates ((now, p) :: polls)) = .next u → u.stable = r →
          t.stable = r ∧ t.pressed = 0 ∧ t.released = 0 ∧ t.pstart = u.pstart ∧ t.pfinish = u.pfinish)

/-- A button held at reset is reported as a press, and an idle first sample writes nothing but the edge clear
(70_reset_and_hazards.md R234). The two polls have draws of their own (20_memory.md R55): only their masks are equal. -/
def Obligations.HeldAtResetIsReportedAsAPress : Prop :=
  ∀ (c : Configuration) (t1 t2 : Time) (p1 p2 : Ports), c.wellFormed = true →
    ((State.resetWith c).rawOf p1 = (State.resetWith c).rawOf p2 → (State.resetWith c).rawOf p1 ≠ 0 →
      c.debounceDelay.toNat < (t2 - t1).toNat →
      ∃ t : State, Sys2Proof.core.run 2 ((State.resetWith c).withUpdates [(t1, p1), (t2, p2)]) = .next t ∧
        t.pressed = (State.resetWith c).rawOf p1 ∧ t.stable = (State.resetWith c).rawOf p1 ∧ t.released = 0 ∧
        t.ldt = t1 ∧ t.pstart = t2 ∧ t.pfinish = 0) ∧
    ((State.resetWith c).rawOf p1 = 0 →
      ∃ t : State, Sys2Proof.core.run 1 ((State.resetWith c).withUpdates [(t1, p1)]) = .next t ∧
        SameButtonState (State.resetWith c) t)

/-- Chords share one hold (41_debounce_edge.md R133): while STABLE stays non-zero no UPDATE moves a hold timestamp;
PSTART moves only from idle to active, to NOW, and PFINISH only from active to idle, to NOW. -/
def Obligations.HoldTimestampsMoveOnlyBetweenIdleAndActive : Prop :=
  ∀ (now : Time) (s t : State), exec (.update now) s = .next t →
    (s.stable ≠ 0 ∧ t.stable ≠ 0 → t.pstart = s.pstart ∧ t.pfinish = s.pfinish) ∧
    (s.stable = 0 ∧ t.stable ≠ 0 → t.pstart = now ∧ t.pfinish = s.pfinish) ∧
    (s.stable ≠ 0 ∧ t.stable = 0 → t.pstart = s.pstart ∧ t.pfinish = now) ∧
    (s.stable = 0 ∧ t.stable = 0 → t.pstart = s.pstart ∧ t.pfinish = s.pfinish)

/-- The clock duty (70_reset_and_hazards.md R237): while NOW is not below LDT an UPDATE changes STABLE only when more
than DEBOUNCE_DELAY has passed since LDT; a NOW below LDT gives the modular difference 2^32 - (LDT - NOW). -/
def Obligations.CommitNeedsMoreThanTheWindow : Prop :=
  ∀ (now : Time) (s t : State), exec (.update now) s = .next t →
    (t.stable ≠ s.stable → s.ldt.toNat ≤ now.toNat → s.ldt.toNat + s.cfg.debounceDelay.toNat < now.toNat) ∧
    (now.toNat < s.ldt.toNat → s.sampleRaw = s.lraw → s.lraw ≠ s.stable →
      s.cfg.debounceDelay.toNat < 4294967296 - (s.ldt.toNat - now.toNat) → t.stable = s.lraw)

/-- A reset during a hold reports no release (70_reset_and_hazards.md R243). -/
def Obligations.ResetDuringAHoldReportsNoRelease : Prop :=
  ∀ (s : State) (idx : ButtonIdx) (draws : Ports), s.cfg.wellFormed = true →
    s.pending = [.reset, .command (encode (.wasReleased idx)).1 (encode (.wasReleased idx)).2 draws] →
    ∃ t : State, Sys2Proof.core.run 2 s = .next t ∧ t.hostView = (0, 0) ∧ t.stable = 0 ∧ t.released = 0

/-! ### Queries, hold timer, names -/

/-- 42_queries_hold_timer.md R150: the bit test, and 0 for every index from 7 up on masks that keep the invariant. -/
def Obligations.BitTestIsZeroPastTheMask : Prop :=
  (∀ (m : Mask) (idx : ButtonIdx), bitTest m idx = if idx.toNat ≤ 7 then m.getLsbD idx.toNat else false) ∧
  (∀ (s : State) (idx : ButtonIdx), ButtonInvariant s → 7 ≤ idx.toNat →
    bitTest s.stable idx = false ∧ bitTest s.pressed idx = false ∧ bitTest s.released idx = false ∧
    bitTest s.lraw idx = false)

/-- IS_PRESSED answers the index's bit of STABLE, 0 past the mask (42_queries_hold_timer.md R151). -/
def Obligations.IsPressedAnswersTheStableBit : Prop :=
  ∀ (idx : ButtonIdx) (s : State), exec (.isPressed idx) s =
    .next { s with result := if idx.toNat ≤ 7 ∧ s.stable.getLsbD idx.toNat = true then 1 else 0, ill := 0 }

/-- WAS_PRESSED answers the index's bit of PRESSED, 0 past the mask (42_queries_hold_timer.md R152). -/
def Obligations.WasPressedAnswersThePressedBit : Prop :=
  ∀ (idx : ButtonIdx) (s : State), exec (.wasPressed idx) s =
    .next { s with result := if idx.toNat ≤ 7 ∧ s.pressed.getLsbD idx.toNat = true then 1 else 0, ill := 0 }

/-- WAS_RELEASED answers the index's bit of RELEASED, 0 past the mask (42_queries_hold_timer.md R153). -/
def Obligations.WasReleasedAnswersTheReleasedBit : Prop :=
  ∀ (idx : ButtonIdx) (s : State), exec (.wasReleased idx) s =
    .next { s with result := if idx.toNat ≤ 7 ∧ s.released.getLsbD idx.toNat = true then 1 else 0, ill := 0 }

/-- WAS_ANY_PRESSED and WAS_ANY_RELEASED answer whether the mask has a bit set (42_queries_hold_timer.md R154, R155). -/
def Obligations.AnyEdgeQueriesTestTheWholeMask : Prop :=
  ∀ s : State,
    exec .wasAnyPressed s =
      .next { s with result := if s.pressed = 0 then 0 else 1, ill := 0 } ∧
    exec .wasAnyReleased s =
      .next { s with result := if s.released = 0 then 0 else 1, ill := 0 }

/-- GET_HELD_TIME answers the current hold's duration or the last one's, modulo 2^32 (42_queries_hold_timer.md R156). -/
def Obligations.GetHeldTimeAnswersTheHold : Prop :=
  ∀ (now : Time) (s : State),
    (s.stable ≠ 0 → exec (.getHeldTime now) s =
      .next { s with result := BitVec.ofNat 32 (now.toNat + 4294967296 - s.pstart.toNat), ill := 0 }) ∧
    (s.stable = 0 → exec (.getHeldTime now) s =
      .next { s with result := BitVec.ofNat 32 (s.pfinish.toNat + 4294967296 - s.pstart.toNat), ill := 0 })

/-- Hold and debounce intervals below 2^32 ms are measured right across the clock's wrap (70_reset_and_hazards.md R238). -/
def Obligations.IntervalsAreRightAcrossTheWrap : Prop :=
  ∀ (s : State) (start d : Nat), d < 4294967296 →
    (s.stable ≠ 0 → s.pstart = BitVec.ofNat 32 start →
      ∃ t : State, exec (.getHeldTime (BitVec.ofNat 32 (start + d))) s = .next t ∧ t.result.toNat = d) ∧
    (s.sampleRaw = s.lraw → s.lraw ≠ s.stable → s.ldt = BitVec.ofNat 32 start →
      ∃ t : State, exec (.update (BitVec.ofNat 32 (start + d))) s = .next t ∧
        (t.stable = s.lraw ↔ s.cfg.debounceDelay.toNat < d))

/-- GET_HELD_TIME is 0 after reset until the first commit from idle to active, whatever the host presents
(42_queries_hold_timer.md R157). -/
def Obligations.EarlyHeldTimeIsZero : Prop :=
  ∀ (c : Configuration) (evs : List Event) (n : Nat) (t : State) (now : Time), c.wellFormed = true →
    (∀ m, m ≤ n → ∀ u : State, Sys2Proof.core.run m { State.resetWith c with pending := evs } = .next u → u.stable = 0) →
    Sys2Proof.core.run n { State.resetWith c with pending := evs } = .next t →
    exec (.getHeldTime now) t = .next { t with result := 0, ill := 0 }

/-- GET_BUTTON_NAME answers the index as label id for 0 to 6 and 7 above, and the LABEL ROM holds the eight names
(42_queries_hold_timer.md R158, 10_state.md R38). -/
def Obligations.GetButtonNameAnswersTheLabel : Prop :=
  (∀ (idx : ButtonIdx) (s : State), exec (.getButtonName idx) s =
    .next { s with result := BitVec.ofNat 32 (min idx.toNat 7), ill := 0 }) ∧
  (List.range 8).map (fun k => labelText (BitVec.ofNat 32 k)) =
    [some "Back", some "Confirm", some "Left", some "Right", some "Up", some "Down", some "Power", some "Unknown"]

/-- 42_queries_hold_timer.md R159: a query writes only RESULT and ILL and reads no port, and queries do not change what
later queries answer. -/
def Obligations.QueriesWriteOnlyTheResponse : Prop :=
  ∀ (i : Instr), isQuery i = true → ∀ s : State,
    (∃ t : State, exec i s = .next t ∧ t = { s with result := t.result, ill := 0 } ∧
      (∀ p : Ports, exec i { s with ports := p } = .next { t with ports := p }) ∧
      (∀ j : Instr, isQuery j = true → exec j t = exec j s))

/-! ### The polynomial scaler -/

/-- 43_polynomial_scaler.md R181: the integer form, and that it gives the result of the exact rational definition (R180)
for every 16-bit millivolt value. -/
def Obligations.IntegerPctEqualsRationalPct : Prop :=
  ∀ mv : Millivolts,
    pctInt mv.toNat = pctRational mv.toNat ∧
    pctInt mv.toNat = max 0 (min 100
      ((-1449390 * (mv.toNat : Int) ^ 3 + 16558629000 * (mv.toNat : Int) ^ 2 - 61588520000000 * (mv.toNat : Int)
        + 75013202000000000 + 5000000000000) / 10000000000000))

/-- The percentage over its whole domain (43_polynomial_scaler.md R187): its seven ranges, and 3165 to 4610 as the
maximal interval around 3700 on which it does not decrease. -/
def Obligations.PctOverItsWholeDomain : Prop :=
  let f := fun mv : Nat => (pct (BitVec.ofNat 16 mv)).toNat
  (∀ mv, mv ≤ 2678 → f mv = 100) ∧
  (∀ mv, 2679 ≤ mv → mv ≤ 3164 → 1 ≤ f mv ∧ f mv ≤ 99) ∧
  (∀ mv, 3165 ≤ mv → mv ≤ 3291 → f mv = 0) ∧
  (∀ mv, 3292 ≤ mv → mv ≤ 4135 → 1 ≤ f mv ∧ f mv ≤ 99) ∧
  (∀ mv, 4136 ≤ mv → mv ≤ 4610 → f mv = 100) ∧
  (∀ mv, 4611 ≤ mv → mv ≤ 4968 → 1 ≤ f mv ∧ f mv ≤ 99) ∧
  (∀ mv, 4969 ≤ mv → mv ≤ 65535 → f mv = 0) ∧
  (∀ a b, 3165 ≤ a → a ≤ b → b ≤ 4610 → f a ≤ f b) ∧ f 3165 < f 3164 ∧ f 4611 < f 4610

/-- The datapath width (43_polynomial_scaler.md R182): the bound on |P|, attained at 65535, needs 69 magnitude bits. -/
def Obligations.PolynomialFitsSeventyBits : Prop :=
  (∀ mv : Nat, mv ≤ 65535 → (pctPolynomial mv).natAbs ≤ 340792932322334946250) ∧
  (pctPolynomial 65535).natAbs = 340792932322334946250 ∧
  2 ^ 68 ≤ 340792932322334946250 ∧ 340792932322334946250 < 2 ^ 69

/-- No 16-bit millivolt value gives an exact rounding tie (43_polynomial_scaler.md R180). -/
def Obligations.NoMillivoltValueIsATie : Prop :=
  ∀ (mv : Nat) (k : Int), mv ≤ 65535 → pctCubic ((mv : ℚ) / 1000) ≠ (k : ℚ) + 1 / 2

/-- PCT_FROM_MV answers the percentage, between 0 and 100, and writes no other register (43_polynomial_scaler.md R183). -/
def Obligations.PctFromMvAnswersThePercentage : Prop :=
  ∀ (mv : Millivolts) (s : State), ∃ r : Nat, r ≤ 100 ∧ (r : Int) = pctRational mv.toNat ∧
    exec (.pctFromMv mv) s = .next { s with result := BitVec.ofNat 32 r, ill := 0 }

/-- 43_polynomial_scaler.md R184: divider scaling takes the floor and saturates at 0xFFFF. -/
def Obligations.ScaleMvFloorsAndSaturates : Prop :=
  ∀ (c : Configuration) (b : BatCode), 1 ≤ c.ratioDen.toNat →
    (scaleMv c b).toNat = min (b.toNat * c.ratioNum.toNat / c.ratioDen.toNat) 0xFFFF

/-- READ_MV answers the scaled battery port (43_polynomial_scaler.md R185), and is refused where RATIO_DEN is 0 (10_state.md
R37, 92_eei_decisions.md D25; the place of that refusal is the model's, log 4). -/
def Obligations.ReadMvAnswersTheScaledPort : Prop :=
  ∀ s : State,
    (1 ≤ s.cfg.ratioDen.toNat → exec .readMv s =
      .next { s with
        result := BitVec.ofNat 32 (min (s.ports.batIn.toNat * s.cfg.ratioNum.toNat / s.cfg.ratioDen.toNat) 65535)
        ill := 0 }) ∧
    (s.cfg.ratioDen = 0 → exec .readMv s = .refused .illFormedConfiguration)

/-- READ_PCT answers what PCT_FROM_MV answers for the value READ_MV would have given for the same draw
(43_polynomial_scaler.md R186), and is refused where RATIO_DEN is 0 (10_state.md R37; log 4). -/
def Obligations.ReadPctIsPctOfReadMv : Prop :=
  ∀ s : State,
    (1 ≤ s.cfg.ratioDen.toNat → ∃ (mv : Millivolts) (r : Nat),
      mv.toNat = min (s.ports.batIn.toNat * s.cfg.ratioNum.toNat / s.cfg.ratioDen.toNat) 65535 ∧
      (r : Int) = pctRational mv.toNat ∧
      exec .readPct s = .next { s with result := BitVec.ofNat 32 r, ill := 0 } ∧
      exec .readMv s = .next { s with result := mv.setWidth 32, ill := 0 } ∧
      exec .readPct s = exec (.pctFromMv mv) s) ∧
    (s.cfg.ratioDen = 0 → exec .readPct s = .refused .illFormedConfiguration)

/-! ### Reads, independence, instances, assembler -/

/-- Which ports a command reads (20_memory.md R54): two draws that agree on the ports a command reads give the same
registers. -/
def Obligations.CommandsSeeOnlyThePortsTheyRead : Prop :=
  ∀ (i : Instr) (s : State) (p q : Ports),
    (readsButtons i = true → p.adc1 = q.adc1 ∧ p.adc2 = q.adc2 ∧ p.pwrN = q.pwrN) →
    (readsBattery i = true → p.batIn = q.batIn) →
    ∀ t u : State, exec i { s with ports := p } = .next t → exec i { s with ports := q } = .next u →
      t = { u with ports := p }

/-- The gauge commands read no button register and no threshold (20_memory.md R63): their answer is the same from any two
states with the same ratio and the same battery draw. -/
def Obligations.GaugeReadsNoButtonState : Prop :=
  ∀ (i : Instr) (s t s' t' : State), i ∈ [Instr.readMv, Instr.readPct] ∨ (∃ mv, i = .pctFromMv mv) →
    s.cfg.ratioNum = t.cfg.ratioNum → s.cfg.ratioDen = t.cfg.ratioDen → s.ports.batIn = t.ports.batIn →
    exec i s = .next s' → exec i t = .next t' → s'.hostView = t'.hostView ∧ SameButtonState s s'

/-- Instances share nothing (20_memory.md R63, 60_exceptions.md R211): a step of one leaves every other as it was, and
depends on its own state alone. -/
def Obligations.InstancesShareNothing : Prop :=
  ∀ (k : Nat) (platform other : List State) (s : State), platform[k]? = some s → other[k]? = some s →
    s.cfg.wellFormed = true →
    ∃ (t : State) (after after' : List State), step s = .next t ∧
      stepInstance k platform = .next after ∧ stepInstance k other = .next after' ∧
      after.length = platform.length ∧ after[k]? = some t ∧ after'[k]? = some t ∧
      ∀ j, j ≠ k → after[j]? = platform[j]? ∧ after'[j]? = other[j]?

/-- Assembling the assembly form of an instruction gives its encoding, and an argument out of its class's range is
refused (30_encoding.md R79). That a number after a class N mnemonic is refused is the model's choice, not R79's words
(log 12). -/
def Obligations.AssemblerEncodesAndRefuses : Prop :=
  (∀ i : Instr, assembleCommand i.toAsm = .word (encode i).1 (encode i).2) ∧
  (∀ (m : Mnemonic) (n : Nat), assembleCommand ⟨m, some n⟩ = .refused ↔
    m.operandClass = .noArgument ∨ (m.operandClass = .index ∧ 255 < n) ∨
    (m.operandClass = .time ∧ 4294967296 ≤ n) ∨ (m.operandClass = .millivolts ∧ 65535 < n))

/-- 30_encoding.md R80: NOP assembles to SAMPLE (CMD 0x0000, OPND 0), which changes no state other than RESULT and ILL. -/
def Obligations.NopAssemblesToSample : Prop :=
  assembleLine "NOP".toList = .word 0x0000 0 ∧ decode 0x0000 0 = .command .sample ∧
  ∀ s : State, ∃ t : State, exec .sample s = .next t ∧ t = { s with result := t.result, ill := t.ill }

/-- 30_encoding.md R81: the symbolic indices of the class I commands, and any number 0 to 255. -/
def Obligations.SymbolicIndicesAreAccepted : Prop :=
  ∀ m : Mnemonic, m.operandClass = .index →
    (["BACK", "CONFIRM", "LEFT", "RIGHT", "UP", "DOWN", "POWER"].map fun n => argumentOf m n.toList) =
      [some 0, some 1, some 2, some 3, some 4, some 5, some 6] ∧
    ∀ n, n ≤ 255 → assembleCommand ⟨m, some n⟩ = .word (matchWord m ||| BitVec.ofNat 16 n) 0
end

