-- ==== Sys2Proof/Laws/State.lean ====
section
/-! SUPPORT. One lemma per field per update of State: the simp set in which no proof unfolds a record update. -/

namespace Sys2Proof.Machine

/-! ### `State.respond` -/

@[simp] theorem State.respond_lraw (s : State) (v : ResultWord) : (s.respond v).lraw = s.lraw := rfl
@[simp] theorem State.respond_stable (s : State) (v : ResultWord) : (s.respond v).stable = s.stable := rfl
@[simp] theorem State.respond_pressed (s : State) (v : ResultWord) : (s.respond v).pressed = s.pressed := rfl
@[simp] theorem State.respond_released (s : State) (v : ResultWord) : (s.respond v).released = s.released := rfl
@[simp] theorem State.respond_ldt (s : State) (v : ResultWord) : (s.respond v).ldt = s.ldt := rfl
@[simp] theorem State.respond_pstart (s : State) (v : ResultWord) : (s.respond v).pstart = s.pstart := rfl
@[simp] theorem State.respond_pfinish (s : State) (v : ResultWord) : (s.respond v).pfinish = s.pfinish := rfl
@[simp] theorem State.respond_result (s : State) (v : ResultWord) : (s.respond v).result = v := rfl
@[simp] theorem State.respond_ill (s : State) (v : ResultWord) : (s.respond v).ill = 0 := rfl
@[simp] theorem State.respond_cfg (s : State) (v : ResultWord) : (s.respond v).cfg = s.cfg := rfl
@[simp] theorem State.respond_ports (s : State) (v : ResultWord) : (s.respond v).ports = s.ports := rfl
@[simp] theorem State.respond_pending (s : State) (v : ResultWord) : (s.respond v).pending = s.pending := rfl

/-! ### `State.respondIllegal` -/

@[simp] theorem State.respondIllegal_lraw (s : State) : (s.respondIllegal).lraw = s.lraw := rfl
@[simp] theorem State.respondIllegal_stable (s : State) : (s.respondIllegal).stable = s.stable := rfl
@[simp] theorem State.respondIllegal_pressed (s : State) : (s.respondIllegal).pressed = s.pressed := rfl
@[simp] theorem State.respondIllegal_released (s : State) : (s.respondIllegal).released = s.released := rfl
@[simp] theorem State.respondIllegal_ldt (s : State) : (s.respondIllegal).ldt = s.ldt := rfl
@[simp] theorem State.respondIllegal_pstart (s : State) : (s.respondIllegal).pstart = s.pstart := rfl
@[simp] theorem State.respondIllegal_pfinish (s : State) : (s.respondIllegal).pfinish = s.pfinish := rfl
@[simp] theorem State.respondIllegal_result (s : State) : (s.respondIllegal).result = 0 := rfl
@[simp] theorem State.respondIllegal_ill (s : State) : (s.respondIllegal).ill = 1 := rfl
@[simp] theorem State.respondIllegal_cfg (s : State) : (s.respondIllegal).cfg = s.cfg := rfl
@[simp] theorem State.respondIllegal_ports (s : State) : (s.respondIllegal).ports = s.ports := rfl
@[simp] theorem State.respondIllegal_pending (s : State) : (s.respondIllegal).pending = s.pending := rfl

/-! ### `State.clearEdges` -/

@[simp] theorem State.clearEdges_lraw (s : State) : (s.clearEdges).lraw = s.lraw := rfl
@[simp] theorem State.clearEdges_stable (s : State) : (s.clearEdges).stable = s.stable := rfl
@[simp] theorem State.clearEdges_pressed (s : State) : (s.clearEdges).pressed = 0x00 := rfl
@[simp] theorem State.clearEdges_released (s : State) : (s.clearEdges).released = 0x00 := rfl
@[simp] theorem State.clearEdges_ldt (s : State) : (s.clearEdges).ldt = s.ldt := rfl
@[simp] theorem State.clearEdges_pstart (s : State) : (s.clearEdges).pstart = s.pstart := rfl
@[simp] theorem State.clearEdges_pfinish (s : State) : (s.clearEdges).pfinish = s.pfinish := rfl
@[simp] theorem State.clearEdges_result (s : State) : (s.clearEdges).result = s.result := rfl
@[simp] theorem State.clearEdges_ill (s : State) : (s.clearEdges).ill = s.ill := rfl
@[simp] theorem State.clearEdges_cfg (s : State) : (s.clearEdges).cfg = s.cfg := rfl
@[simp] theorem State.clearEdges_ports (s : State) : (s.clearEdges).ports = s.ports := rfl
@[simp] theorem State.clearEdges_pending (s : State) : (s.clearEdges).pending = s.pending := rfl

/-! ### `State.setEdges` -/

@[simp] theorem State.setEdges_lraw (s : State) (raw : Mask) : (s.setEdges raw).lraw = s.lraw := rfl
@[simp] theorem State.setEdges_stable (s : State) (raw : Mask) : (s.setEdges raw).stable = s.stable := rfl
@[simp] theorem State.setEdges_pressed (s : State) (raw : Mask) : (s.setEdges raw).pressed = pressedEdges raw s.stable := rfl
@[simp] theorem State.setEdges_released (s : State) (raw : Mask) : (s.setEdges raw).released = releasedEdges raw s.stable := rfl
@[simp] theorem State.setEdges_ldt (s : State) (raw : Mask) : (s.setEdges raw).ldt = s.ldt := rfl
@[simp] theorem State.setEdges_pstart (s : State) (raw : Mask) : (s.setEdges raw).pstart = s.pstart := rfl
@[simp] theorem State.setEdges_pfinish (s : State) (raw : Mask) : (s.setEdges raw).pfinish = s.pfinish := rfl
@[simp] theorem State.setEdges_result (s : State) (raw : Mask) : (s.setEdges raw).result = s.result := rfl
@[simp] theorem State.setEdges_ill (s : State) (raw : Mask) : (s.setEdges raw).ill = s.ill := rfl
@[simp] theorem State.setEdges_cfg (s : State) (raw : Mask) : (s.setEdges raw).cfg = s.cfg := rfl
@[simp] theorem State.setEdges_ports (s : State) (raw : Mask) : (s.setEdges raw).ports = s.ports := rfl
@[simp] theorem State.setEdges_pending (s : State) (raw : Mask) : (s.setEdges raw).pending = s.pending := rfl

/-! ### `State.setStable` -/

@[simp] theorem State.setStable_lraw (s : State) (raw : Mask) : (s.setStable raw).lraw = s.lraw := rfl
@[simp] theorem State.setStable_stable (s : State) (raw : Mask) : (s.setStable raw).stable = raw := rfl
@[simp] theorem State.setStable_pressed (s : State) (raw : Mask) : (s.setStable raw).pressed = s.pressed := rfl
@[simp] theorem State.setStable_released (s : State) (raw : Mask) : (s.setStable raw).released = s.released := rfl
@[simp] theorem State.setStable_ldt (s : State) (raw : Mask) : (s.setStable raw).ldt = s.ldt := rfl
@[simp] theorem State.setStable_pstart (s : State) (raw : Mask) : (s.setStable raw).pstart = s.pstart := rfl
@[simp] theorem State.setStable_pfinish (s : State) (raw : Mask) : (s.setStable raw).pfinish = s.pfinish := rfl
@[simp] theorem State.setStable_result (s : State) (raw : Mask) : (s.setStable raw).result = s.result := rfl
@[simp] theorem State.setStable_ill (s : State) (raw : Mask) : (s.setStable raw).ill = s.ill := rfl
@[simp] theorem State.setStable_cfg (s : State) (raw : Mask) : (s.setStable raw).cfg = s.cfg := rfl
@[simp] theorem State.setStable_ports (s : State) (raw : Mask) : (s.setStable raw).ports = s.ports := rfl
@[simp] theorem State.setStable_pending (s : State) (raw : Mask) : (s.setStable raw).pending = s.pending := rfl

/-! ### `State.applyReset` -/

@[simp] theorem State.applyReset_lraw (s : State) : (s.applyReset).lraw = 0x00 := rfl
@[simp] theorem State.applyReset_stable (s : State) : (s.applyReset).stable = 0x00 := rfl
@[simp] theorem State.applyReset_pressed (s : State) : (s.applyReset).pressed = 0x00 := rfl
@[simp] theorem State.applyReset_released (s : State) : (s.applyReset).released = 0x00 := rfl
@[simp] theorem State.applyReset_ldt (s : State) : (s.applyReset).ldt = 0 := rfl
@[simp] theorem State.applyReset_pstart (s : State) : (s.applyReset).pstart = 0 := rfl
@[simp] theorem State.applyReset_pfinish (s : State) : (s.applyReset).pfinish = 0 := rfl
@[simp] theorem State.applyReset_result (s : State) : (s.applyReset).result = 0 := rfl
@[simp] theorem State.applyReset_ill (s : State) : (s.applyReset).ill = 0 := rfl
@[simp] theorem State.applyReset_cfg (s : State) : (s.applyReset).cfg = s.cfg := rfl
@[simp] theorem State.applyReset_ports (s : State) : (s.applyReset).ports = s.ports := rfl
@[simp] theorem State.applyReset_pending (s : State) : (s.applyReset).pending = s.pending := rfl

/-! ### `State.present` -/

@[simp] theorem State.present_lraw (s : State) (draws : Ports) (later : List Event) : (s.present draws later).lraw = s.lraw := rfl
@[simp] theorem State.present_stable (s : State) (draws : Ports) (later : List Event) : (s.present draws later).stable = s.stable := rfl
@[simp] theorem State.present_pressed (s : State) (draws : Ports) (later : List Event) : (s.present draws later).pressed = s.pressed := rfl
@[simp] theorem State.present_released (s : State) (draws : Ports) (later : List Event) : (s.present draws later).released = s.released := rfl
@[simp] theorem State.present_ldt (s : State) (draws : Ports) (later : List Event) : (s.present draws later).ldt = s.ldt := rfl
@[simp] theorem State.present_pstart (s : State) (draws : Ports) (later : List Event) : (s.present draws later).pstart = s.pstart := rfl
@[simp] theorem State.present_pfinish (s : State) (draws : Ports) (later : List Event) : (s.present draws later).pfinish = s.pfinish := rfl
@[simp] theorem State.present_result (s : State) (draws : Ports) (later : List Event) : (s.present draws later).result = s.result := rfl
@[simp] theorem State.present_ill (s : State) (draws : Ports) (later : List Event) : (s.present draws later).ill = s.ill := rfl
@[simp] theorem State.present_cfg (s : State) (draws : Ports) (later : List Event) : (s.present draws later).cfg = s.cfg := rfl
@[simp] theorem State.present_ports (s : State) (draws : Ports) (later : List Event) : (s.present draws later).ports = draws := rfl
@[simp] theorem State.present_pending (s : State) (draws : Ports) (later : List Event) : (s.present draws later).pending = later := rfl

/-! ### `State.noteRaw` -/

@[simp] theorem State.noteRaw_lraw (s : State) (now : Time) (raw : Mask) : (s.noteRaw now raw).lraw = raw := by
  unfold State.noteRaw; split <;> simp_all
@[simp] theorem State.noteRaw_stable (s : State) (now : Time) (raw : Mask) : (s.noteRaw now raw).stable = s.stable := by
  unfold State.noteRaw; split <;> simp_all
@[simp] theorem State.noteRaw_pressed (s : State) (now : Time) (raw : Mask) : (s.noteRaw now raw).pressed = s.pressed := by
  unfold State.noteRaw; split <;> simp_all
@[simp] theorem State.noteRaw_released (s : State) (now : Time) (raw : Mask) : (s.noteRaw now raw).released = s.released := by
  unfold State.noteRaw; split <;> simp_all
@[simp] theorem State.noteRaw_ldt (s : State) (now : Time) (raw : Mask) : (s.noteRaw now raw).ldt = if raw ≠ s.lraw then now else s.ldt := by
  unfold State.noteRaw; split <;> simp_all
@[simp] theorem State.noteRaw_pstart (s : State) (now : Time) (raw : Mask) : (s.noteRaw now raw).pstart = s.pstart := by
  unfold State.noteRaw; split <;> simp_all
@[simp] theorem State.noteRaw_pfinish (s : State) (now : Time) (raw : Mask) : (s.noteRaw now raw).pfinish = s.pfinish := by
  unfold State.noteRaw; split <;> simp_all
@[simp] theorem State.noteRaw_result (s : State) (now : Time) (raw : Mask) : (s.noteRaw now raw).result = s.result := by
  unfold State.noteRaw; split <;> simp_all
@[simp] theorem State.noteRaw_ill (s : State) (now : Time) (raw : Mask) : (s.noteRaw now raw).ill = s.ill := by
  unfold State.noteRaw; split <;> simp_all
@[simp] theorem State.noteRaw_cfg (s : State) (now : Time) (raw : Mask) : (s.noteRaw now raw).cfg = s.cfg := by
  unfold State.noteRaw; split <;> simp_all
@[simp] theorem State.noteRaw_ports (s : State) (now : Time) (raw : Mask) : (s.noteRaw now raw).ports = s.ports := by
  unfold State.noteRaw; split <;> simp_all
@[simp] theorem State.noteRaw_pending (s : State) (now : Time) (raw : Mask) : (s.noteRaw now raw).pending = s.pending := by
  unfold State.noteRaw; split <;> simp_all

/-! ### `State.captureStart` -/

@[simp] theorem State.captureStart_lraw (s : State) (now : Time) (old : Mask) : (s.captureStart now old).lraw = s.lraw := by
  unfold State.captureStart; split <;> simp_all
@[simp] theorem State.captureStart_stable (s : State) (now : Time) (old : Mask) : (s.captureStart now old).stable = s.stable := by
  unfold State.captureStart; split <;> simp_all
@[simp] theorem State.captureStart_pressed (s : State) (now : Time) (old : Mask) : (s.captureStart now old).pressed = s.pressed := by
  unfold State.captureStart; split <;> simp_all
@[simp] theorem State.captureStart_released (s : State) (now : Time) (old : Mask) : (s.captureStart now old).released = s.released := by
  unfold State.captureStart; split <;> simp_all
@[simp] theorem State.captureStart_ldt (s : State) (now : Time) (old : Mask) : (s.captureStart now old).ldt = s.ldt := by
  unfold State.captureStart; split <;> simp_all
@[simp] theorem State.captureStart_pstart (s : State) (now : Time) (old : Mask) : (s.captureStart now old).pstart = if s.pressed ≠ 0 ∧ old = 0 then now else s.pstart := by
  unfold State.captureStart; split <;> simp_all
@[simp] theorem State.captureStart_pfinish (s : State) (now : Time) (old : Mask) : (s.captureStart now old).pfinish = s.pfinish := by
  unfold State.captureStart; split <;> simp_all
@[simp] theorem State.captureStart_result (s : State) (now : Time) (old : Mask) : (s.captureStart now old).result = s.result := by
  unfold State.captureStart; split <;> simp_all
@[simp] theorem State.captureStart_ill (s : State) (now : Time) (old : Mask) : (s.captureStart now old).ill = s.ill := by
  unfold State.captureStart; split <;> simp_all
@[simp] theorem State.captureStart_cfg (s : State) (now : Time) (old : Mask) : (s.captureStart now old).cfg = s.cfg := by
  unfold State.captureStart; split <;> simp_all
@[simp] theorem State.captureStart_ports (s : State) (now : Time) (old : Mask) : (s.captureStart now old).ports = s.ports := by
  unfold State.captureStart; split <;> simp_all
@[simp] theorem State.captureStart_pending (s : State) (now : Time) (old : Mask) : (s.captureStart now old).pending = s.pending := by
  unfold State.captureStart; split <;> simp_all

/-! ### `State.captureFinish` -/

@[simp] theorem State.captureFinish_lraw (s : State) (now : Time) (raw : Mask) : (s.captureFinish now raw).lraw = s.lraw := by
  unfold State.captureFinish; split <;> simp_all
@[simp] theorem State.captureFinish_stable (s : State) (now : Time) (raw : Mask) : (s.captureFinish now raw).stable = s.stable := by
  unfold State.captureFinish; split <;> simp_all
@[simp] theorem State.captureFinish_pressed (s : State) (now : Time) (raw : Mask) : (s.captureFinish now raw).pressed = s.pressed := by
  unfold State.captureFinish; split <;> simp_all
@[simp] theorem State.captureFinish_released (s : State) (now : Time) (raw : Mask) : (s.captureFinish now raw).released = s.released := by
  unfold State.captureFinish; split <;> simp_all
@[simp] theorem State.captureFinish_ldt (s : State) (now : Time) (raw : Mask) : (s.captureFinish now raw).ldt = s.ldt := by
  unfold State.captureFinish; split <;> simp_all
@[simp] theorem State.captureFinish_pstart (s : State) (now : Time) (raw : Mask) : (s.captureFinish now raw).pstart = s.pstart := by
  unfold State.captureFinish; split <;> simp_all
@[simp] theorem State.captureFinish_pfinish (s : State) (now : Time) (raw : Mask) : (s.captureFinish now raw).pfinish = if s.released ≠ 0 ∧ raw = 0 then now else s.pfinish := by
  unfold State.captureFinish; split <;> simp_all
@[simp] theorem State.captureFinish_result (s : State) (now : Time) (raw : Mask) : (s.captureFinish now raw).result = s.result := by
  unfold State.captureFinish; split <;> simp_all
@[simp] theorem State.captureFinish_ill (s : State) (now : Time) (raw : Mask) : (s.captureFinish now raw).ill = s.ill := by
  unfold State.captureFinish; split <;> simp_all
@[simp] theorem State.captureFinish_cfg (s : State) (now : Time) (raw : Mask) : (s.captureFinish now raw).cfg = s.cfg := by
  unfold State.captureFinish; split <;> simp_all
@[simp] theorem State.captureFinish_ports (s : State) (now : Time) (raw : Mask) : (s.captureFinish now raw).ports = s.ports := by
  unfold State.captureFinish; split <;> simp_all
@[simp] theorem State.captureFinish_pending (s : State) (now : Time) (raw : Mask) : (s.captureFinish now raw).pending = s.pending := by
  unfold State.captureFinish; split <;> simp_all

/-! ### `State.resetWith` -/

@[simp] theorem State.resetWith_lraw (c : Configuration) : (State.resetWith c).lraw = 0 := rfl
@[simp] theorem State.resetWith_stable (c : Configuration) : (State.resetWith c).stable = 0 := rfl
@[simp] theorem State.resetWith_pressed (c : Configuration) : (State.resetWith c).pressed = 0 := rfl
@[simp] theorem State.resetWith_released (c : Configuration) : (State.resetWith c).released = 0 := rfl
@[simp] theorem State.resetWith_ldt (c : Configuration) : (State.resetWith c).ldt = 0 := rfl
@[simp] theorem State.resetWith_pstart (c : Configuration) : (State.resetWith c).pstart = 0 := rfl
@[simp] theorem State.resetWith_pfinish (c : Configuration) : (State.resetWith c).pfinish = 0 := rfl
@[simp] theorem State.resetWith_result (c : Configuration) : (State.resetWith c).result = 0 := rfl
@[simp] theorem State.resetWith_ill (c : Configuration) : (State.resetWith c).ill = 0 := rfl
@[simp] theorem State.resetWith_cfg (c : Configuration) : (State.resetWith c).cfg = c := rfl
@[simp] theorem State.resetWith_ports (c : Configuration) : (State.resetWith c).ports = Ports.idle := rfl
@[simp] theorem State.resetWith_pending (c : Configuration) : (State.resetWith c).pending = [] := rfl

end Sys2Proof.Machine
end

