-- ==== Sys2Proof/Laws/Ops.lean ====
section
/-! SUPPORT. What each shared operation can do, said once: the operators of 00_scope.md R9, the band decode, the steps of
UPDATE. -/

namespace Sys2Proof.Machine

/-! ### Operators -/

theorem gtu_iff (a b : Time) : gtu a b = true ↔ b.toNat < a.toNat := by simp [gtu]

@[simp] theorem sub32_self (a : Time) : sub32 a a = 0 := by simp [sub32]

theorem sub32_toNat (a b : Time) : (sub32 a b).toNat = (4294967296 - b.toNat + a.toNat) % 4294967296 := by
  simp [sub32, BitVec.toNat_sub]

theorem floorDiv_eq_ediv (a : Int) {b : Int} (h : 0 ≤ b) : floorDiv a b = a / b :=
  Int.fdiv_eq_ediv_of_nonneg a h

theorem clampInt_eq (x lo hi : Int) (h : lo ≤ hi) : clampInt x lo hi = max lo (min hi x) := by
  unfold clampInt; split
  · omega
  · split <;> omega

theorem pctInt_bounds (mv : Int) : 0 ≤ pctInt mv ∧ pctInt mv ≤ 100 := by
  rw [pctInt, clampInt_eq _ _ _ (by decide)]; omega

/-! ### Band decoding -/

theorem inBand_iff (v : AdcCode) (upper lower : Threshold) :
    inBand v upper lower = true ↔ lower.toInt < (v.toNat : Int) ∧ (v.toNat : Int) ≤ upper.toInt := by
  simp [inBand]

/-- A band that the decode answers is one of the table's, counted from its start. -/
theorem bandFrom_range (v : AdcCode) (thr : List Threshold) (i k : Nat) (h : bandFrom v i thr = some k) :
    i ≤ k ∧ k + 1 < i + thr.length := by
  induction thr generalizing i with
  | nil => simp [bandFrom] at h
  | cons u rest ih =>
    cases rest with
    | nil => simp [bandFrom] at h
    | cons l rest =>
      simp only [bandFrom] at h
      split at h
      · simp at h; subst h; simp
      · have := ih (i + 1) h
        simp at this ⊢; omega

theorem decodeBand_lt (v : AdcCode) (thr : List Threshold) (k : Nat) (h : decodeBand v thr = some k) :
    k + 1 < thr.length := by
  have := bandFrom_range v thr 0 k h; omega

/-- On a table of two entries or more the decode tests the first band, then the rest of the table. -/
theorem bandFrom_cons (v : AdcCode) (i : Nat) (u l : Threshold) (rest : List Threshold) :
    bandFrom v i (u :: l :: rest) = if inBand v u l then some i else bandFrom v (i + 1) (l :: rest) := rfl

/-- The count a decode starts from only shifts its answer. -/
theorem bandFrom_shift (v : AdcCode) (thr : List Threshold) (i : Nat) :
    bandFrom v (i + 1) thr = (bandFrom v i thr).map (· + 1) := by
  induction thr generalizing i with
  | nil => rfl
  | cons u rest ih =>
    cases rest with
    | nil => rfl
    | cons l rest =>
      simp only [bandFrom_cons]
      split
      · rfl
      · exact ih (i + 1)

theorem thr1_band_lt (c : Configuration) (a : AdcCode) (k : Nat) (h : decodeBand a c.thr1.toList = some k) : k < 4 := by
  have := decodeBand_lt a _ k h; simp at this; omega

theorem thr2_band_lt (c : Configuration) (a : AdcCode) (k : Nat) (h : decodeBand a c.thr2.toList = some k) : k < 2 := by
  have := decodeBand_lt a _ k h; simp at this; omega

@[simp] theorem sampleRaw_eq (s : State) :
    s.sampleRaw = rawMask s.cfg s.ports.adc1 s.ports.adc2 s.ports.pwrN := rfl

/-! ### The steps of UPDATE -/

/-- Step 3 writes LRAW and LDT, or nothing (41_debounce_edge.md R122). -/
theorem noteRaw_cases (s : State) (now : Time) (raw : Mask) :
    (raw = s.lraw ∧ s.noteRaw now raw = s) ∨
    (raw ≠ s.lraw ∧ s.noteRaw now raw = { s with ldt := now, lraw := raw }) := by
  by_cases h : raw = s.lraw
  · exact .inl ⟨h, by simp [State.noteRaw, h]⟩
  · exact .inr ⟨h, by simp [State.noteRaw, h]⟩

theorem commitDue_iff (s : State) (now : Time) (raw : Mask) :
    s.commitDue now raw = true ↔ s.cfg.debounceDelay.toNat < (sub32 now s.ldt).toNat ∧ raw ≠ s.stable := by
  simp [State.commitDue, gtu_iff]

/-- No commit is due when LDT is NOW: a difference of 0 exceeds no window (41_debounce_edge.md R129). -/
theorem commitDue_restart (s : State) (now : Time) (raw raw' : Mask) :
    ({ s with ldt := now, lraw := raw' } : State).commitDue now raw = false := by
  simp [State.commitDue, gtu]

theorem commitIfDue_of_not (s : State) (now : Time) (raw : Mask) (h : s.commitDue now raw = false) :
    s.commitIfDue now raw = s := by simp [State.commitIfDue, h]

theorem commitIfDue_of_due (s : State) (now : Time) (raw : Mask) (h : s.commitDue now raw = true) :
    s.commitIfDue now raw = s.commit now raw := by simp [State.commitIfDue, h]

/-- What a commit leaves alone. -/
theorem commit_frame (s : State) (now : Time) (raw : Mask) :
    (s.commit now raw).lraw = s.lraw ∧ (s.commit now raw).ldt = s.ldt ∧ (s.commit now raw).result = s.result ∧
    (s.commit now raw).ill = s.ill ∧ (s.commit now raw).cfg = s.cfg ∧ (s.commit now raw).ports = s.ports ∧
    (s.commit now raw).pending = s.pending := by
  simp [State.commit]

/-- What a commit writes besides the hold timestamps (41_debounce_edge.md R124, R127). -/
theorem commit_writes (s : State) (now : Time) (raw : Mask) :
    (s.commit now raw).stable = raw ∧ (s.commit now raw).pressed = pressedEdges raw s.stable ∧
    (s.commit now raw).released = releasedEdges raw s.stable := by
  simp [State.commit]

end Sys2Proof.Machine
end

