-- ==== Sys2Proof/Laws/PerInstr.lean ====
section
/-! SUPPORT. Families of facts about every instruction as syntax, one lemma per constructor: its operands are in the range
of its class (`OperandInRange`), and its encoding matches its own row of the opcode map and leaves the high half of OPND
clear where the class asks for that (`EncodingInRow`). -/

namespace Sys2Proof.Laws

/-- The assembler accepts the instruction's operand (30_encoding.md R79). -/
def OperandInRange.Statement (i : Instr) : Prop := i.wellFormed = true

theorem OperandInRange.sample : OperandInRange.Statement .sample := rfl
theorem OperandInRange.update (now : Time) : OperandInRange.Statement (.update now) := by
  simpa [Statement, Instr.wellFormed, Instr.toAsm, AsmCommand.wellFormed, Mnemonic.operandClass] using now.isLt
theorem OperandInRange.isPressed (idx : ButtonIdx) : OperandInRange.Statement (.isPressed idx) := by
  simpa [Statement, Instr.wellFormed, Instr.toAsm, AsmCommand.wellFormed, Mnemonic.operandClass]
    using Nat.le_of_lt_succ idx.isLt
theorem OperandInRange.wasPressed (idx : ButtonIdx) : OperandInRange.Statement (.wasPressed idx) := by
  simpa [Statement, Instr.wellFormed, Instr.toAsm, AsmCommand.wellFormed, Mnemonic.operandClass]
    using Nat.le_of_lt_succ idx.isLt
theorem OperandInRange.wasReleased (idx : ButtonIdx) : OperandInRange.Statement (.wasReleased idx) := by
  simpa [Statement, Instr.wellFormed, Instr.toAsm, AsmCommand.wellFormed, Mnemonic.operandClass]
    using Nat.le_of_lt_succ idx.isLt
theorem OperandInRange.wasAnyPressed : OperandInRange.Statement .wasAnyPressed := rfl
theorem OperandInRange.wasAnyReleased : OperandInRange.Statement .wasAnyReleased := rfl
theorem OperandInRange.getHeldTime (now : Time) : OperandInRange.Statement (.getHeldTime now) := by
  simpa [Statement, Instr.wellFormed, Instr.toAsm, AsmCommand.wellFormed, Mnemonic.operandClass] using now.isLt
theorem OperandInRange.getButtonName (idx : ButtonIdx) : OperandInRange.Statement (.getButtonName idx) := by
  simpa [Statement, Instr.wellFormed, Instr.toAsm, AsmCommand.wellFormed, Mnemonic.operandClass]
    using Nat.le_of_lt_succ idx.isLt
theorem OperandInRange.pctFromMv (mv : Millivolts) : OperandInRange.Statement (.pctFromMv mv) := by
  simpa [Statement, Instr.wellFormed, Instr.toAsm, AsmCommand.wellFormed, Mnemonic.operandClass]
    using Nat.le_of_lt_succ mv.isLt
theorem OperandInRange.readMv : OperandInRange.Statement .readMv := rfl
theorem OperandInRange.readPct : OperandInRange.Statement .readPct := rfl

/-- The encoded word matches the instruction's own row, and MV leaves OPND[31:16] clear (30_encoding.md R72, R75). -/
def EncodingInRow.Statement (i : Instr) : Prop :=
  rowMatches i.mnemonic (encode i).1 = true ∧ (i.mnemonic.operandClass = .millivolts → opndHigh (encode i).2 = 0)

/-- A class I word matches its row at every index (30_encoding.md R72). -/
theorem indexedWord_matches (m : Mnemonic) (idx : ButtonIdx) (hm : maskWord m = 0xFF00)
    (hw : matchWord m &&& 0xFF00 = matchWord m) : rowMatches m (indexedWord m idx) = true := by
  have low : idx.setWidth 16 &&& 0xFF00#16 = 0 := by
    ext i hi
    have h := idx.isLt
    by_cases h8 : i < 8
    · have : ∀ j : Fin 8, (0xFF00#16).getLsbD j.val = false := by decide
      simp [← BitVec.getLsbD_eq_getElem, this ⟨i, h8⟩]
    · simp [← BitVec.getLsbD_eq_getElem, BitVec.getLsbD_of_ge idx i (by omega)]
  have dist : (matchWord m ||| idx.setWidth 16) &&& 0xFF00#16 = matchWord m := by
    have : (matchWord m ||| idx.setWidth 16) &&& 0xFF00#16 =
        (matchWord m &&& 0xFF00#16) ||| (idx.setWidth 16 &&& 0xFF00#16) := by
      ext i; simp [Bool.and_or_distrib_right]
    rw [this, low]; simpa using hw
  simp [rowMatches, indexedWord, hm, dist]

theorem EncodingInRow.sample : EncodingInRow.Statement .sample := ⟨rfl, by decide⟩
theorem EncodingInRow.update (now : Time) : EncodingInRow.Statement (.update now) :=
  ⟨(rfl : rowMatches .update (matchWord .update) = true), by simp [Instr.mnemonic, Mnemonic.operandClass]⟩
theorem EncodingInRow.isPressed (idx : ButtonIdx) : EncodingInRow.Statement (.isPressed idx) :=
  ⟨indexedWord_matches .isPressed idx rfl rfl, by simp [Instr.mnemonic, Mnemonic.operandClass]⟩
theorem EncodingInRow.wasPressed (idx : ButtonIdx) : EncodingInRow.Statement (.wasPressed idx) :=
  ⟨indexedWord_matches .wasPressed idx rfl rfl, by simp [Instr.mnemonic, Mnemonic.operandClass]⟩
theorem EncodingInRow.wasReleased (idx : ButtonIdx) : EncodingInRow.Statement (.wasReleased idx) :=
  ⟨indexedWord_matches .wasReleased idx rfl rfl, by simp [Instr.mnemonic, Mnemonic.operandClass]⟩
theorem EncodingInRow.wasAnyPressed : EncodingInRow.Statement .wasAnyPressed := ⟨rfl, by decide⟩
theorem EncodingInRow.wasAnyReleased : EncodingInRow.Statement .wasAnyReleased := ⟨rfl, by decide⟩
theorem EncodingInRow.getHeldTime (now : Time) : EncodingInRow.Statement (.getHeldTime now) :=
  ⟨(rfl : rowMatches .getHeldTime (matchWord .getHeldTime) = true), by simp [Instr.mnemonic, Mnemonic.operandClass]⟩
theorem EncodingInRow.getButtonName (idx : ButtonIdx) : EncodingInRow.Statement (.getButtonName idx) :=
  ⟨indexedWord_matches .getButtonName idx rfl rfl, by simp [Instr.mnemonic, Mnemonic.operandClass]⟩
theorem EncodingInRow.pctFromMv (mv : Millivolts) : EncodingInRow.Statement (.pctFromMv mv) := by
  refine ⟨(rfl : rowMatches .pctFromMv (matchWord .pctFromMv) = true), fun _ => ?_⟩
  apply BitVec.eq_of_toNat_eq
  have h := mv.isLt
  simp [opndHigh, encode, BitVec.extractLsb'_toNat, Nat.shiftRight_eq_div_pow]
  omega
theorem EncodingInRow.readMv : EncodingInRow.Statement .readMv := ⟨rfl, by decide⟩
theorem EncodingInRow.readPct : EncodingInRow.Statement .readPct := ⟨rfl, by decide⟩

end Sys2Proof.Laws
end

