-- ==== Sys2Proof/Laws/Step.lean ====
section
/-! SUPPORT. What a command and a step can do, said once: the inversion lemmas that proofs cite instead of unfolding
`exec`, `transact` or `step`. -/

namespace Sys2Proof.Machine

/-- The answer of a command that only responds: every command but UPDATE. -/
theorem exec_respond_or_update (i : Instr) (s t : State) (h : exec i s = .next t) :
    (∃ now, i = .update now) ∨ ∃ v, t = s.respond v := by
  cases i with
  | update now => exact .inl ⟨now, rfl⟩
  | readMv =>
    simp only [exec, execReadMv] at h
    split at h
    · simp at h
    · exact .inr ⟨_, by simpa using h.symm⟩
  | readPct =>
    simp only [exec, execReadPct] at h
    split at h
    · simp at h
    · exact .inr ⟨_, by simpa using h.symm⟩
  | sample => exact .inr ⟨_, by simpa [exec, execSample] using h.symm⟩
  | isPressed idx => exact .inr ⟨_, by simpa [exec, execIsPressed] using h.symm⟩
  | wasPressed idx => exact .inr ⟨_, by simpa [exec, execWasPressed] using h.symm⟩
  | wasReleased idx => exact .inr ⟨_, by simpa [exec, execWasReleased] using h.symm⟩
  | wasAnyPressed => exact .inr ⟨_, by simpa [exec, execWasAnyPressed] using h.symm⟩
  | wasAnyReleased => exact .inr ⟨_, by simpa [exec, execWasAnyReleased] using h.symm⟩
  | getHeldTime now => exact .inr ⟨_, by simpa [exec, execGetHeldTime] using h.symm⟩
  | getButtonName idx => exact .inr ⟨_, by simpa [exec, execGetButtonName] using h.symm⟩
  | pctFromMv mv => exact .inr ⟨_, by simpa [exec, execPctFromMv] using h.symm⟩

/-- A transaction runs one decoded command, or answers ILLEGAL. -/
theorem transact_cases (cmd : CmdWord) (opnd : Operand) (s : State) :
    (∃ i, decode cmd opnd = .command i ∧ transact cmd opnd s = exec i s) ∨
    (∃ c, decode cmd opnd = .illegal c ∧ transact cmd opnd s = .next s.respondIllegal) := by
  unfold transact
  cases h : decode cmd opnd with
  | command i => exact .inl ⟨i, rfl, rfl⟩
  | illegal c => exact .inr ⟨c, rfl, rfl⟩

theorem isIllegal_iff (cmd : CmdWord) (opnd : Operand) : isIllegal cmd opnd = true ↔ ∃ c, decode cmd opnd = .illegal c := by
  unfold isIllegal
  cases decode cmd opnd <;> simp

/-- Everything a step that answers a next state can have done. -/
theorem step_cases (s t : State) (h : step s = .next t) :
    s.cfg.wellFormed = true ∧
    ((s.pending = [] ∧ t = s) ∨
     (∃ later, s.pending = .reset :: later ∧ t = (s.present s.ports later).applyReset) ∨
     (∃ cmd opnd draws later, s.pending = .command cmd opnd draws :: later ∧
       transact cmd opnd (s.present draws later) = .next t)) := by
  simp only [step, nextStep] at h
  split at h
  · rename_i wf
    refine ⟨wf, ?_⟩
    split at h
    · rename_i hp
      exact .inl ⟨hp, by simpa using h.symm⟩
    · rename_i e later hp
      cases e with
      | reset => exact .inr (.inl ⟨later, hp, by simpa [takeEvent] using h.symm⟩)
      | command cmd opnd draws => exact .inr (.inr ⟨cmd, opnd, draws, later, hp, by simpa [takeEvent] using h⟩)
  · simp at h

/-- What a step does, from what is presented. -/
theorem step_command (s : State) (cmd : CmdWord) (opnd : Operand) (draws : Ports) (later : List Event)
    (wf : s.cfg.wellFormed = true) (hp : s.pending = .command cmd opnd draws :: later) :
    step s = transact cmd opnd (s.present draws later) := by
  simp [step, nextStep, wf, hp, takeEvent]

theorem step_reset (s : State) (later : List Event) (wf : s.cfg.wellFormed = true) (hp : s.pending = .reset :: later) :
    step s = .next (s.present s.ports later).applyReset := by
  simp [step, nextStep, wf, hp, takeEvent]

end Sys2Proof.Machine
end

