-- ==== Sys2Proof/Tests/Slice0.lean ====
section
/-! SUPPORT. Tests whose expected results come from the spec's own vectors (95_test_vectors.md, named in each comment), the
well-formedness smoke tests, and a witness for every statement that has hypotheses. -/

namespace Sys2Proof.Tests

open Sys2Proof Sys2Proof.Machine

/-! ### Helpers -/

/-- The next state of an outcome. -/
def nextOf : Outcome → Option State
  | .next s => some s
  | .fault _ => none
  | .refused _ => none

/-- Port values of the vectors' input shorthand (95_test_vectors.md). -/
def ports (a1 a2 : AdcCode) (pin : PinLevel) (bat : BatCode) : Ports := ⟨a1, a2, pin, bat⟩

/-- Inputs for the raw masks 0x00, 0x01 (Back), 0x02 (Confirm), 0x11 (Back and Up). -/
def idle : Ports := ports 4095 4095 1 0
def back : Ports := ports 3500 4095 1 0
def confirm : Ports := ports 2500 4095 1 0
def backUp : Ports := ports 3500 3000 1 0

/-- The reset state under TCFG with the given ports. -/
def withPorts (p : Ports) : State := { State.reset with ports := p }

/-- RESULT after a command. -/
def resultOf (i : Instr) (s : State) : Option ResultWord := (nextOf (exec i s)).map State.result

/-- The seven registers of the data model after an UPDATE: LRAW, STABLE, PRESSED, RELEASED, LDT, PSTART, PFINISH. -/
def buttonsOf (i : Instr) (s : State) : Option (Mask × Mask × Mask × Mask × Time × Time × Time) :=
  (nextOf (exec i s)).map fun t => (t.lraw, t.stable, t.pressed, t.released, t.ldt, t.pstart, t.pfinish)

/-! ### Well-formedness smoke tests: each check refuses an ill-formed term -/

theorem test_asm_index_out_of_range_refused : (AsmCommand.mk .isPressed (some 256)).wellFormed = false := by decide
theorem test_asm_now_out_of_range_refused : (AsmCommand.mk .update (some 4294967296)).wellFormed = false := by decide
theorem test_asm_mv_out_of_range_refused : (AsmCommand.mk .pctFromMv (some 65536)).wellFormed = false := by decide
theorem test_asm_argument_on_class_n_refused : (AsmCommand.mk .sample (some 0)).wellFormed = false := by decide
theorem test_asm_missing_argument_refused : (AsmCommand.mk .getHeldTime none).wellFormed = false := by decide
theorem test_config_thr1_not_decreasing_refused :
    { Configuration.tcfg with thr1 := #v[3900, 3000, 3000, 1000, -1] : Configuration }.wellFormed = false := by decide
theorem test_config_thr2_not_decreasing_refused :
    { Configuration.tcfg with thr2 := #v[3900, 2000, 2001] : Configuration }.wellFormed = false := by decide
theorem test_config_zero_denominator_refused :
    { Configuration.tcfg with ratioDen := 0 : Configuration }.wellFormed = false := by decide
theorem test_config_tcfg_accepted : Configuration.tcfg.wellFormed = true := by decide

/-! ### Decoding: each row's word written out from the encoding column of 30_encoding.md R72 -/

theorem test_decode_sample : decode 0b0000000000000000 0xDEADBEEF = .command .sample := by decide
theorem test_decode_update : decode 0b0001000000000000 0xFFFFFFFE = .command (.update 4294967294) := by decide
theorem test_decode_isPressed : decode 0b0010000011001000 0 = .command (.isPressed 200) := by decide
theorem test_decode_wasPressed : decode 0b0011000000000100 0 = .command (.wasPressed 4) := by decide
theorem test_decode_wasReleased : decode 0b0100000000000010 0 = .command (.wasReleased 2) := by decide
theorem test_decode_wasAnyPressed : decode 0b0101000000000000 0xDEADBEEF = .command .wasAnyPressed := by decide
theorem test_decode_wasAnyReleased : decode 0b0110000000000000 0 = .command .wasAnyReleased := by decide
theorem test_decode_getHeldTime : decode 0b0111000000000000 0x00000064 = .command (.getHeldTime 100) := by decide
theorem test_decode_getButtonName : decode 0b1000000011111111 0 = .command (.getButtonName 255) := by decide
theorem test_decode_pctFromMv : decode 0b1001000000000000 0x00000CE4 = .command (.pctFromMv 3300) := by decide
theorem test_decode_readMv : decode 0b1010000000000000 0 = .command .readMv := by decide
theorem test_decode_readPct : decode 0b1011000000000000 0 = .command .readPct := by decide
/-- X2, X3, X4, X10, X11, X12, X13 of 95_test_vectors.md 2.7. -/
theorem test_decode_illegal_words :
    isIllegal 0x0001 0 ∧ isIllegal 0x0100 0 ∧ isIllegal 0x1001 5 ∧ isIllegal 0x9000 0x00010000 ∧ isIllegal 0xC000 0 ∧
    isIllegal 0xF123 0 ∧ isIllegal 0xBFFF 0 := by decide
/-- X9. -/
theorem test_decode_widest_millivolts : decode 0x9000 0x0000FFFF = .command (.pctFromMv 65535) := by decide
theorem test_table_word : decodeTableWord 16 0x20FF = some (.isPressed 255) ∧ decodeTableWord 16 0x2100 = none := by decide

/-! ### The comparator -/

/-- B2, B3, B5, B6, B9, B11 of 95_test_vectors.md 2.1. -/
theorem test_decodeBand_thr1 :
    [3901, 3900, 3000, 2001, 1000, 0].map (fun v => decodeBand v Configuration.tcfg.thr1.toList) =
      [none, some 0, some 1, some 1, some 3, some 3] := by decide
/-- B12, B13, B14: a sentinel above zero. -/
theorem test_decodeBand_sentinel :
    [101, 100, 0].map (fun v => decodeBand v [3900, 3000, 2000, 1000, 100]) = [some 3, none, none] := by decide
/-- S3. -/
theorem test_sample_confirm_power : resultOf .sample (withPorts (ports 2500 4095 0 0)) = some 0x42 := by decide
/-- S8: channel 2 at the edge of a band. -/
theorem test_sample_band_edges : resultOf .sample (withPorts (ports 1000 2001 1 0)) = some 0x18 := by decide

/-! ### UPDATE -/

/-- U6: a direct switch shows both edges and moves no timestamp. -/
theorem test_update_direct_switch :
    buttonsOf (.update 26)
      { withPorts confirm with lraw := 0x02, stable := 0x01, ldt := 20, pstart := 6, pfinish := 3 } =
    some (0x02, 0x02, 0x02, 0x01, 20, 6, 3) := by decide
/-- U10: the debounce interval across the clock's wrap. -/
theorem test_update_wrap :
    buttonsOf (.update 4) { withPorts back with lraw := 0x01, ldt := 0xFFFFFFFE } =
    some (0x01, 0x01, 0x01, 0x00, 0xFFFFFFFE, 4, 0) := by decide
/-- U3: a difference of exactly DEBOUNCE_DELAY does not commit. -/
theorem test_update_at_the_window :
    buttonsOf (.update 5) { withPorts back with lraw := 0x01 } = some (0x01, 0x00, 0x00, 0x00, 0, 0, 0) := by decide
/-- U5: a commit to idle sets PFINISH. -/
theorem test_update_to_idle :
    buttonsOf (.update 16) { withPorts idle with lraw := 0x00, stable := 0x01, ldt := 10, pstart := 6 } =
    some (0x00, 0x00, 0x00, 0x01, 10, 6, 16) := by decide

/-! ### Queries -/

/-- Q1, Q4, Q5. -/
theorem test_isPressed :
    [6, 7, 8].map (fun k => resultOf (.isPressed k) { State.reset with stable := 0x41 }) = [some 1, some 0, some 0] := by
  decide
/-- Q7, Q11. -/
theorem test_wasPressed : resultOf (.wasPressed 1) { State.reset with pressed := 0x02, released := 0x01 } = some 1 := by
  decide
/-- Q8. -/
theorem test_wasReleased : resultOf (.wasReleased 0) { State.reset with pressed := 0x02, released := 0x01 } = some 1 := by
  decide
/-- Q11: an edge of the other kind does not count. -/
theorem test_wasAnyPressed : resultOf .wasAnyPressed { State.reset with released := 0x04 } = some 0 := by decide
theorem test_wasAnyReleased : resultOf .wasAnyReleased { State.reset with released := 0x04 } = some 1 := by decide
/-- H5: an ongoing hold across the wrap. -/
theorem test_heldTime_ongoing :
    resultOf (.getHeldTime 0x10) { State.reset with stable := 0x01, pstart := 0xFFFFFFF0 } = some 0x20 := by decide
/-- H7: the last hold, NOW ignored. -/
theorem test_heldTime_finished :
    resultOf (.getHeldTime 0) { State.reset with pstart := 206, pfinish := 256 } = some 50 := by decide
/-- N7, N8, N10. -/
theorem test_buttonName :
    [6, 7, 255].map (fun k => resultOf (.getButtonName k) State.reset) = [some 6, some 7, some 7] := by decide

/-! ### The scaler -/

/-- G1, G8, G9, G15a, G15b, G28, G29, G31. -/
theorem test_pctFromMv :
    [0, 3164, 3165, 3677, 4632, 4968, 4969, 65535].map (fun mv => resultOf (.pctFromMv mv) State.reset) =
      [some 100, some 1, some 0, some 37, some 96, some 1, some 0, some 0] := by decide
/-- The column P of G1, G2, G15b, G31. -/
theorem test_pctPolynomial :
    [0, 1, 4632, 65535].map pctPolynomial =
      [75013202000000000, 74951630037179610, 964996389716480, -340792932322334946250] := by decide
/-- M4, M5. -/
theorem test_readMv :
    [2100, 40000].map (fun b => resultOf .readMv (withPorts (ports 0 0 0 b))) = [some 4200, some 65535] := by decide
/-- M7: the floor of 4201.5 under RATIO 3/2. -/
theorem test_readMv_floor :
    resultOf .readMv { withPorts (ports 0 0 0 2801) with cfg := { Configuration.tcfg with ratioNum := 3, ratioDen := 2 } } =
      some 4201 := by decide
/-- M1, M3. -/
theorem test_readPct :
    [0, 1850].map (fun b => resultOf .readPct (withPorts (ports 0 0 0 b))) = [some 100, some 41] := by decide

/-! ### The step and the assembler -/

/-- L3-3 line 6: an ILLEGAL word writes RESULT and ILL alone. -/
theorem test_step_illegal :
    nextOf (step ({ State.reset with lraw := 0x04, ldt := 9, result := 7 }.withFetchWord 16 0x1001)) =
      some { State.reset with lraw := 0x04, ldt := 9, result := 0, ill := 1 } := by decide
/-- W1 cycle 2, presented as a table word after cycle 1. -/
theorem test_step_command :
    (nextOf (step { State.reset with lraw := 0x01, pending := [.command 0x1000 6 back, .reset] })).map
      (fun t => (t.stable, t.pstart, t.pending)) = some (0x01, 6, [.reset]) := by decide
theorem test_step_reset :
    nextOf (step { State.reset with stable := 0x01, pfinish := 9, ill := 1, pending := [.reset] }) = some State.reset := by
  decide
/-- 30_encoding.md R79's examples. -/
theorem test_assemble_lines :
    ["WAS_ANY_PRESSED", "is_pressed BACK ; level", "UPDATE 16", "\tPCT_FROM_MV  0xE74", "; only a comment", "IS_PRESSED 256"].map
      (fun l => assembleLine l.toList) =
    [.word 0x5000 0, .word 0x2000 0, .word 0x1000 0x10, .word 0x9000 0x0E74, .blank, .refused] := by decide

/-! ### Witnesses: a concrete instance of the hypotheses of each statement that has some -/

theorem witness_DecodeOfEncodeIsTheInstruction : (Instr.isPressed 255).wellFormed = true := by decide
theorem witness_LegalPairIsAnEncoding :
    decode 0x9000 0xFFFF = .command (.pctFromMv 0xFFFF) ∧ (Instr.pctFromMv 0xFFFF).mnemonic.operandClass = .millivolts ∧
    decode 0x1000 0xFFFFFFFF = .command (.update 0xFFFFFFFF) := by decide
theorem witness_IllegalExactlyOnTheFourCauses :
    isIllegal 0xC000 0 = true ∧ isIllegal 0x2100 0 = true ∧ isIllegal 0xB001 0 = true ∧ isIllegal 0x9000 0x10000 = true ∧
    isIllegal 0xBFFF 0 = true ∧ isIllegal 0x20FF 0 = false := by decide
theorem witness_RowSelectsItsCommand : (0x20FF#16 &&& 0xFF00#16) = 0x2000#16 ∧ (0xB000#16 &&& 0xFFFF#16) = 0xB000#16 := by
  decide
theorem witness_ReservedFieldIsIllegal : (0x2100#16).toNat / 256 % 16 ≠ 0 ∧ (0x0F00#16).toNat / 256 % 16 ≠ 0 := by decide
theorem witness_CountOfLegalWords : 0xC000 ≤ (0xC000#16).toNat ∧ 0xC000 ≤ (0xFFFF#16).toNat := by decide
theorem witness_OperandIgnoredByClassesNAndI :
    selectMnemonic (cmdOp 0x0000) = some .sample ∧ Mnemonic.sample.operandClass = .noArgument ∧
    selectMnemonic (cmdOp 0x20FF) = some .isPressed ∧ Mnemonic.isPressed.operandClass = .index := by decide
theorem witness_StepRunsTheDecodedCommand :
    let s : State := { State.reset with pending := [.command 0x1000 6 back] }
    s.cfg.wellFormed = true ∧ s.pending = [.command 0x1000 6 back] ∧ decode 0x1000 6 = .command (.update 6) ∧
    (Instr.update 6).wellFormed = true := by decide
theorem witness_PresentedWordRunsNext :
    State.reset.cfg.wellFormed = true ∧ decodeTableWord 16 0xB000 = some .readPct := by decide
theorem witness_IllegalWordWritesOnlyTheResponse :
    let s : State := { State.reset with pending := [.command 0xC000 0 idle] }
    s.cfg.wellFormed = true ∧ s.pending = [.command 0xC000 0 idle] ∧ isIllegal 0xC000 0 = true ∧
    nextOf (exec .sample s) ≠ none := by decide
theorem witness_ResetInputRestoresEveryRegister :
    let s : State := { State.reset with stable := 0x01, pending := [.reset] }
    s.cfg.wellFormed = true ∧ s.pending = [.reset] := by decide
theorem witness_NothingPresentedChangesNothing : State.reset.cfg.wellFormed = true ∧ State.reset.pending = [] := by decide
/-- Both sides of the equivalence: TCFG is accepted, and each check has a configuration that fails it (the smoke tests). -/
theorem witness_IllFormedConfigurationIsRefused :
    nextOf (step State.reset) ≠ none ∧
    nextOf (step { State.reset with cfg := { Configuration.tcfg with ratioDen := 0 } }) = none := by decide
theorem witness_WellFormedInstanceAlwaysAnswers : State.reset.cfg.wellFormed = true := by decide
theorem witness_StepNeverWritesConfiguration : nextOf (step State.reset) ≠ none := by decide
theorem witness_EveryStepKeepsTheButtonInvariant :
    ButtonInvariant { State.reset with lraw := 0x01 } ∧
    nextOf (step { State.reset with lraw := 0x01, pending := [.command 0x1000 6 back] }) ≠ none := by
  refine ⟨⟨⟨by decide, ?_, by decide⟩, ⟨by decide, ?_, by decide⟩, by decide, by decide, by decide, by decide, by decide⟩,
    by decide⟩
  · intro i j hi hj
    have : ∀ i : Fin 4, ∀ j : Fin 4, (0x01#8).getLsbD i = true → (0x01#8).getLsbD j = true → i.val = j.val := by decide
    exact this ⟨i, hi⟩ ⟨j, hj⟩
  · intro i j _ _ h
    simp [State.reset, State.resetWith] at h
theorem witness_OnlyUpdateOrResetChangesButtonState :
    let s : State := { State.reset with pending := [.command 0x0000 0 back] }
    nextOf (step s) ≠ none ∧ decode 0x0000 0 = .command .sample := by decide
theorem witness_BandsPartitionTheTable :
    let thr : List Threshold := [3900, 2000, -1]
    2 ≤ thr.length ∧ strictlyDecreasing thr = true ∧
    (thr.getD 0 0).toInt < ((3901#12).toNat : Int) ∧
    (thr.getD 2 0).toInt < ((0#12).toNat : Int) ∧ ((3900#12).toNat : Int) ≤ (thr.getD 0 0).toInt ∧
    ((100#12).toNat : Int) ≤ (([3900, 100] : List Threshold).getD 1 0).toInt ∧
    strictlyDecreasing [3900, 100] = true := by decide
theorem witness_UpdateFollowsThePollCycleRules :
    let change : State := withPorts back
    let due : State := { withPorts back with lraw := 0x01, ldt := 0 }
    (change.sampleRaw ≠ change.lraw) ∧
    (due.sampleRaw = due.lraw ∧ due.cfg.debounceDelay.toNat < ((6 : Time) - due.ldt).toNat ∧
      due.sampleRaw ≠ due.stable) ∧
    ¬ (due.cfg.debounceDelay.toNat < ((5 : Time) - due.ldt).toNat) := by decide
/-- The six rows of the table of R128: vectors U9 (settled), U2, U13, U12, U3 and U4. -/
theorem witness_DebounceFsmTransitions :
    (withPorts idle).fsm = .settled ∧ (withPorts idle).sampleRaw = (withPorts idle).lraw ∧
    (withPorts back).sampleRaw ≠ (withPorts back).lraw ∧
    { withPorts back with lraw := 0x02 : State }.fsm = .pending ∧
    { withPorts back with lraw := 0x02 : State }.sampleRaw ≠ 0x02 ∧
    { withPorts back with lraw := 0x02 : State }.sampleRaw ≠ 0x00 ∧
    { withPorts back with lraw := 0x02, stable := 0x01 : State }.sampleRaw = 0x01 ∧
    { withPorts back with lraw := 0x01 : State }.fsm = .pending ∧
    { withPorts back with lraw := 0x01 : State }.sampleRaw = 0x01 ∧
    ¬ ((5 : Time).toNat < ((5 : Time) - 0).toNat) ∧ (5 : Time).toNat < ((6 : Time) - 0).toNat := by decide
theorem witness_EdgeMasksMarkExactlyTheCommits :
    (nextOf (exec (.update 6) { withPorts back with lraw := 0x01 })).map State.pressed = some 0x01 := by decide
theorem witness_EdgeBitsAreLaneWise :
    let s : State := { withPorts backUp with lraw := 0x11, stable := 0x01, ldt := 20 }
    nextOf (exec (.update 26) s) ≠ none ∧ s.sampleRaw = s.lraw ∧
    s.cfg.debounceDelay.toNat < ((26 : Time) - s.ldt).toNat ∧ s.sampleRaw ≠ s.stable := by decide
theorem witness_CommitLatencyOfASteadyInput :
    let s : State := { State.reset with lraw := 0x01 }
    s.cfg.wellFormed = true ∧ s.lraw ≠ s.stable ∧
    (∀ q ∈ [((3 : Time), back), (5, back)], s.rawOf q.2 = s.lraw ∧ (q.1 - s.ldt).toNat ≤ s.cfg.debounceDelay.toNat) ∧
    s.rawOf back = s.lraw ∧ s.cfg.debounceDelay.toNat < ((6 : Time) - s.ldt).toNat := by decide
/-- W2: A = 0x01, B = 0x11, back to A within the window. -/
theorem witness_BounceWithinTheWindowNeverCommits :
    let s : State := { State.reset with lraw := 0x01, stable := 0x01 }
    let bounce : List (Time × Ports) := [(1, backUp), (1, confirm), (5, backUp)]
    s.cfg.wellFormed = true ∧ s.lraw = s.stable ∧ s.rawOf backUp ≠ s.stable ∧ s.rawOf back = s.stable ∧
    (∀ q ∈ bounce, (q.1 - (0 : Time)).toNat ≤ s.cfg.debounceDelay.toNat) ∧
    bounce.Pairwise (fun q r => (q.1 - (0 : Time)).toNat ≤ (r.1 - (0 : Time)).toNat) := by decide
theorem witness_UnchangingInputCommitsAtMostOnce :
    let s : State := State.reset
    let polls : List (Time × Ports) := [(0, back), (6, back), (9, back)]
    s.cfg.wellFormed = true ∧ (∀ q ∈ polls, s.rawOf q.2 = 0x01) ∧
    (match Sys2Proof.core.run 2 (s.withUpdates polls) with
      | .next u => u.stable = 0x01
      | .fault _ => False
      | .refused _ => False) := ⟨by decide, by decide, rfl⟩
/-- The held button is sampled at two different codes of its band (3000, 3900]. -/
theorem witness_HeldAtResetIsReportedAsAPress :
    let s := State.resetWith Configuration.tcfg
    let back' := { back with adc1 := 3001 }
    Configuration.tcfg.wellFormed = true ∧ back ≠ back' ∧ s.rawOf back = s.rawOf back' ∧ s.rawOf back ≠ 0 ∧
    s.rawOf idle = 0 ∧
    Configuration.tcfg.debounceDelay.toNat < ((6 : Time) - 0).toNat := by decide
/-- Each of the four clauses: U7, U4, U5 and an idle poll. -/
theorem witness_HoldTimestampsMoveOnlyBetweenIdleAndActive :
    (nextOf (exec (.update 26) { withPorts backUp with lraw := 0x11, stable := 0x01, ldt := 20 })).map State.stable =
      some 0x11 ∧
    (nextOf (exec (.update 6) { withPorts back with lraw := 0x01 })).map State.stable = some 0x01 ∧
    (nextOf (exec (.update 16) { withPorts idle with stable := 0x01, ldt := 10 })).map State.stable = some 0x00 ∧
    (nextOf (exec (.update 16) (withPorts idle))).map State.stable = some 0x00 := by decide
/-- U4, and U11 with NOW below LDT. -/
theorem witness_CommitNeedsMoreThanTheWindow :
    let s : State := { withPorts back with lraw := 0x01, ldt := 100 }
    (nextOf (exec (.update 106) s)).map State.stable = some 0x01 ∧ s.stable = 0x00 ∧
    s.ldt.toNat ≤ (106 : Time).toNat ∧
    nextOf (exec (.update 50) s) ≠ none ∧ (50 : Time).toNat < s.ldt.toNat ∧ s.sampleRaw = s.lraw ∧ s.lraw ≠ s.stable ∧
    s.cfg.debounceDelay.toNat < 4294967296 - (s.ldt.toNat - (50 : Time).toNat) := by decide
theorem witness_ResetDuringAHoldReportsNoRelease :
    let s : State := { State.reset with stable := 0x01, released := 0x02, pending := [.reset, .command 0x4001 0 idle] }
    s.cfg.wellFormed = true ∧ (encode (.wasReleased 1)) = (0x4001, 0) ∧
    s.pending = [.reset, .command (encode (.wasReleased 1)).1 (encode (.wasReleased 1)).2 idle] := by decide
theorem witness_BitTestIsZeroPastTheMask :
    7 ≤ (7 : ButtonIdx).toNat ∧ 7 ≤ (255 : ButtonIdx).toNat ∧ ButtonInvariant State.reset := by
  refine ⟨by decide, by decide, ⟨⟨by decide, ?_, by decide⟩, ⟨by decide, ?_, by decide⟩, by decide, by decide, by decide,
    by decide, by decide⟩⟩ <;>
  · intro i j _ _ h
    simp [State.reset, State.resetWith] at h
theorem witness_GetHeldTimeAnswersTheHold :
    { State.reset with stable := 0x01 : State }.stable ≠ 0 ∧ State.reset.stable = 0 := by decide
theorem witness_IntervalsAreRightAcrossTheWrap :
    let s : State := { withPorts back with lraw := 0x02, stable := 0x01, pstart := 0xFFFFFFF0, ldt := 0xFFFFFFF0 }
    let p : State := { withPorts back with lraw := 0x01, ldt := 0xFFFFFFF0 }
    (0x20 < 4294967296) ∧ s.stable ≠ 0 ∧ s.pstart = BitVec.ofNat 32 0xFFFFFFF0 ∧
    p.sampleRaw = p.lraw ∧ p.lraw ≠ p.stable ∧ p.ldt = BitVec.ofNat 32 0xFFFFFFF0 := by decide
theorem witness_EarlyHeldTimeIsZero :
    Configuration.tcfg.wellFormed = true ∧
    (∀ m, m ≤ 1 → ∀ u : State,
      Sys2Proof.core.run m { State.resetWith Configuration.tcfg with pending := [.command 0x1000 7 back] } = .next u →
      u.stable = 0) ∧
    (∃ t : State,
      Sys2Proof.core.run 1 { State.resetWith Configuration.tcfg with pending := [.command 0x1000 7 back] } = .next t) := by
  refine ⟨by decide, fun m hm u hu => ?_, ⟨_, rfl⟩⟩
  match m, hm, hu with
  | 0, _, hu => cases hu; rfl
  | 1, _, hu => cases hu; rfl
theorem witness_QueriesWriteOnlyTheResponse : isQuery (.getHeldTime 5) = true ∧ isQuery (.isPressed 255) = true := by decide
theorem witness_ScaleMvFloorsAndSaturates :
    1 ≤ Configuration.tcfg.ratioDen.toNat ∧ (scaleMv Configuration.tcfg 32767).toNat = 65534 ∧
    (scaleMv Configuration.tcfg 32768).toNat = 65535 := by decide
theorem witness_ReadMvAnswersTheScaledPort :
    1 ≤ State.reset.cfg.ratioDen.toNat ∧ { Configuration.tcfg with ratioDen := 0 : Configuration }.ratioDen = 0 := by decide
theorem witness_ReadPctIsPctOfReadMv :
    1 ≤ State.reset.cfg.ratioDen.toNat ∧
    { State.reset with cfg := { Configuration.tcfg with ratioDen := 0 } : State }.cfg.ratioDen = 0 := by decide
theorem witness_PctOverItsWholeDomain :
    3165 ≤ 3165 ∧ 4610 ≤ 4610 ∧ (pct (BitVec.ofNat 16 2679)).toNat = 99 ∧ (pct (BitVec.ofNat 16 4968)).toNat = 1 := by decide
theorem witness_CommandsSeeOnlyThePortsTheyRead :
    readsButtons .sample = true ∧ readsBattery .readMv = true ∧
    nextOf (exec .sample { State.reset with ports := ports 2500 4095 0 7 }) ≠ none ∧
    nextOf (exec .readMv { State.reset with ports := ports 1 2 0 7 }) ≠ none := by decide
theorem witness_GaugeReadsNoButtonState :
    Instr.readPct ∈ [Instr.readMv, Instr.readPct] ∧ nextOf (exec .readPct State.reset) ≠ none ∧
    nextOf (exec .readPct { State.reset with stable := 0x01, pstart := 9 }) ≠ none ∧
    nextOf (exec (.pctFromMv 3700) State.reset) ≠ none := by decide
theorem witness_InstancesShareNothing :
    let s : State := { State.reset with pending := [.command 0x1000 0 back] }
    [State.reset, s][1]? = some s ∧ [s, s, State.reset][1]? = some s ∧ s.cfg.wellFormed = true := by decide
theorem witness_SymbolicIndicesAreAccepted : Mnemonic.wasReleased.operandClass = .index ∧ 255 ≤ 255 := by decide

end Sys2Proof.Tests
end

section
/-! The scope statements of 00_scope.md section 4: when the block changes (R5), and which commands and events write the
seven registers of the data model. -/

namespace Sys2Proof.Machine

/-! ### Agreement on the seven registers of the data model (10_state.md R24 to R30) -/

theorem SameButtonState.refl (s : State) : SameButtonState s s := ⟨rfl, rfl, rfl, rfl, rfl, rfl, rfl⟩

theorem sameButtonState_respond (s : State) (v : ResultWord) : SameButtonState s (s.respond v) := by
  simp [SameButtonState]

theorem sameButtonState_respondIllegal (s : State) : SameButtonState s s.respondIllegal := by
  simp [SameButtonState]

/-- Presenting a command moves only the model's own fields, so the registers seen before and in the command agree. -/
theorem sameButtonState_present_iff (s t : State) (draws : Ports) (later : List Event) :
    SameButtonState (s.present draws later) t ↔ SameButtonState s t := by
  simp [SameButtonState]

/-! ### What leaves the seven registers alone -/

/-- Every command but UPDATE only responds (00_scope.md R5). -/
theorem exec_keeps_buttonState (i : Instr) (s t : State) (h : exec i s = .next t) (hi : ∀ now, i ≠ .update now) :
    SameButtonState s t := by
  obtain ⟨now, rfl⟩ | ⟨v, rfl⟩ := exec_respond_or_update i s t h
  · exact absurd rfl (hi now)
  · exact sameButtonState_respond s v

/-- A word that does not decode to UPDATE, ILLEGAL words among them, leaves the registers of the data model. -/
theorem transact_keeps_buttonState (cmd : CmdWord) (opnd : Operand) (s t : State)
    (h : transact cmd opnd s = .next t) (hd : ∀ now, decode cmd opnd ≠ .command (.update now)) :
    SameButtonState s t := by
  obtain ⟨i, hdec, hrun⟩ | ⟨c, -, hill⟩ := transact_cases cmd opnd s
  · refine exec_keeps_buttonState i s t (hrun ▸ h) fun now hi => hd now ?_
    rw [hdec, hi]
  · obtain rfl : s.respondIllegal = t := by simpa [hill] using h
    exact sameButtonState_respondIllegal s

/-- Settles O20: of the events a step can take, the absence of one changes nothing, a word other than UPDATE only
responds, and a reset is excluded. -/
theorem onlyUpdateOrResetChangesButtonState : Obligations.OnlyUpdateOrResetChangesButtonState := by
  intro s t h noUpdate noReset
  obtain ⟨-, ⟨-, rfl⟩ | ⟨later, hp, -⟩ | ⟨cmd, opnd, draws, later, hp, hrun⟩⟩ := step_cases s t h
  · exact SameButtonState.refl t
  · exact absurd hp (noReset later)
  · have kept := transact_keeps_buttonState cmd opnd _ t hrun fun now => noUpdate cmd opnd draws later now hp
    exact (sameButtonState_present_iff s t draws later).mp kept

/-! ### A step with nothing presented -/

theorem step_nothing (s : State) (wf : s.cfg.wellFormed = true) (hp : s.pending = []) : step s = .next s := by
  simp [step, nextStep, wf, hp]

/-- Settles O14. -/
theorem nothingPresentedChangesNothing : Obligations.NothingPresentedChangesNothing := step_nothing

end Sys2Proof.Machine
end

section
/-! The state rules of 10_state.md: the register invariants of R42 and the reset values of R43, the constant
configuration of R40 and its refusal where it is not well-formed (R35, R37), and which UPDATE commits (R42's last
bullet). -/

namespace Sys2Proof.Machine

/-! ### The bits of the raw mask (40_threshold_comparator.md R102 to R106) -/

theorem channelMask_getLsbD_iff (offset : Nat) (band : Option Nat) (i : Nat) :
    (channelMask offset band).getLsbD i = true ↔ i < 8 ∧ ∃ k, band = some k ∧ i = offset + k := by
  cases band with
  | none => simp [channelMask]
  | some k =>
    simp [channelMask, BitVec.getLsbD_one]
    omega

theorem powerMask_getLsbD_iff (pin : PinLevel) (i : Nat) :
    (powerMask pin).getLsbD i = true ↔ pin = 0 ∧ i = 6 := by
  have bit6 : (0x40#8).getLsbD i = true ↔ i = 6 := by
    rw [show 0x40#8 = BitVec.twoPow 8 6 from rfl, BitVec.getLsbD_twoPow]
    simp
    omega
  unfold powerMask
  split <;> simp_all

/-- A bit of the raw mask comes from channel 1's band, from channel 2's band, or from the power pin. -/
theorem rawMask_getLsbD_iff (c : Configuration) (a1 a2 : AdcCode) (pin : PinLevel) (i : Nat) :
    (rawMask c a1 a2 pin).getLsbD i = true ↔
      decodeBand a1 c.thr1.toList = some i ∨ (∃ k, decodeBand a2 c.thr2.toList = some k ∧ i = 4 + k) ∨
      (pin = 0 ∧ i = 6) := by
  simp only [rawMask, BitVec.getLsbD_or, Bool.or_eq_true, channelMask_getLsbD_iff, powerMask_getLsbD_iff, or_assoc]
  refine or_congr ?_ (or_congr ?_ Iff.rfl)
  · constructor
    · rintro ⟨-, k, hk, rfl⟩
      rwa [Nat.zero_add]
    · intro h
      have := thr1_band_lt c a1 i h
      exact ⟨by omega, i, h, by omega⟩
  · constructor
    · exact fun ⟨_, h⟩ => h
    · rintro ⟨k, hk, rfl⟩
      have := thr2_band_lt c a2 k hk
      exact ⟨by omega, k, hk, rfl⟩

theorem rawMask_getLsbD_channel1 (c : Configuration) (a1 a2 : AdcCode) (pin : PinLevel) (i : Nat) (hi : i < 4) :
    (rawMask c a1 a2 pin).getLsbD i = true ↔ decodeBand a1 c.thr1.toList = some i := by
  rw [rawMask_getLsbD_iff]
  refine or_iff_left ?_
  rintro (⟨k, -, rfl⟩ | ⟨-, rfl⟩) <;> omega

theorem rawMask_getLsbD_channel2 (c : Configuration) (a1 a2 : AdcCode) (pin : PinLevel) (k : Nat) (hk : k < 2) :
    (rawMask c a1 a2 pin).getLsbD (4 + k) = true ↔ decodeBand a2 c.thr2.toList = some k := by
  rw [rawMask_getLsbD_iff]
  constructor
  · rintro (h1 | ⟨j, h2, hj⟩ | ⟨-, h6⟩)
    · have := thr1_band_lt c a1 _ h1
      omega
    · rwa [Nat.add_left_cancel hj]
    · omega
  · exact fun h => .inr (.inl ⟨k, h, rfl⟩)

theorem rawMask_getLsbD_seven (c : Configuration) (a1 a2 : AdcCode) (pin : PinLevel) :
    (rawMask c a1 a2 pin).getLsbD 7 = false := by
  rw [← Bool.not_eq_true, rawMask_getLsbD_iff]
  rintro (h1 | ⟨k, h2, h7⟩ | ⟨-, h6⟩)
  · have := thr1_band_lt c a1 _ h1
    omega
  · have := thr2_band_lt c a2 _ h2
    omega
  · omega

/-- A channel answers one band, so a raw mask has at most one of bits 0 to 3 and at most one of bits 4 and 5. -/
theorem rawShape_rawMask (c : Configuration) (a1 a2 : AdcCode) (pin : PinLevel) :
    RawShape (rawMask c a1 a2 pin) := by
  refine ⟨rawMask_getLsbD_seven c a1 a2 pin, fun i j hi hj hbi hbj => ?_, fun ⟨h4, h5⟩ => ?_⟩
  · have bandi := (rawMask_getLsbD_channel1 c a1 a2 pin i hi).mp hbi
    have bandj := (rawMask_getLsbD_channel1 c a1 a2 pin j hj).mp hbj
    exact Option.some.inj (bandi.symm.trans bandj)
  · have band0 := (rawMask_getLsbD_channel2 c a1 a2 pin 0 (by decide)).mp h4
    have band1 := (rawMask_getLsbD_channel2 c a1 a2 pin 1 (by decide)).mp h5
    simp [band0] at band1

theorem rawShape_sampleRaw (s : State) : RawShape s.sampleRaw := rawShape_rawMask _ _ _ _

/-! ### What an UPDATE does to the masks (41_debounce_edge.md R120 to R127) -/

/-- The commit condition of 41_debounce_edge.md R123 in terms of the state before the UPDATE: a sample that differs from
LRAW restarts the timer, so it does not commit. -/
def State.CommitsAt (s : State) (now : Time) : Prop :=
  s.sampleRaw = s.lraw ∧ s.cfg.debounceDelay.toNat < (now - s.ldt).toNat ∧ s.sampleRaw ≠ s.stable

theorem commitDue_after_noteRaw_iff (s : State) (now : Time) :
    (s.clearEdges.noteRaw now s.sampleRaw).commitDue now s.sampleRaw = true ↔ s.CommitsAt now := by
  unfold State.CommitsAt
  obtain ⟨same, hnote⟩ | ⟨differs, hnote⟩ := noteRaw_cases s.clearEdges now s.sampleRaw
  · rw [hnote, commitDue_iff]
    exact (and_iff_right same).symm
  · rw [hnote, commitDue_restart]
    exact iff_of_false Bool.false_ne_true fun ⟨same, _⟩ => differs same

/-- An UPDATE notes the sample, and commits it or leaves STABLE with both edge masks clear. -/
theorem exec_update_cases (now : Time) (s t : State) (h : exec (.update now) s = .next t) :
    t.cfg = s.cfg ∧ t.lraw = s.sampleRaw ∧
    ((s.CommitsAt now ∧ t.stable = s.sampleRaw ∧ t.pressed = pressedEdges s.sampleRaw s.stable ∧
        t.released = releasedEdges s.sampleRaw s.stable) ∨
     (¬ s.CommitsAt now ∧ t.stable = s.stable ∧ t.pressed = 0 ∧ t.released = 0)) := by
  obtain rfl : ((s.clearEdges.noteRaw now s.sampleRaw).commitIfDue now s.sampleRaw).respond 0 = t :=
    Host.Outcome.next.inj h
  by_cases hc : s.CommitsAt now
  · rw [commitIfDue_of_due _ _ _ ((commitDue_after_noteRaw_iff s now).mpr hc)]
    obtain ⟨hlraw, -, -, -, hcfg, -⟩ := commit_frame (s.clearEdges.noteRaw now s.sampleRaw) now s.sampleRaw
    obtain ⟨hstable, hpressed, hreleased⟩ := commit_writes (s.clearEdges.noteRaw now s.sampleRaw) now s.sampleRaw
    exact ⟨hcfg.trans (by simp), hlraw.trans (by simp),
      .inl ⟨hc, hstable, hpressed.trans (by simp), hreleased.trans (by simp)⟩⟩
  · have notDue := (Bool.not_eq_true _).mp ((commitDue_after_noteRaw_iff s now).not.mpr hc)
    rw [commitIfDue_of_not _ _ _ notDue]
    exact ⟨by simp, by simp, .inr ⟨hc, by simp⟩⟩

/-! ### The register invariants (10_state.md R42) -/

theorem rawShape_zero : RawShape 0 := by simp [RawShape]

/-- The invariant speaks of the seven data-model registers only. -/
theorem ButtonInvariant.of_sameButtonState {s t : State} (inv : ButtonInvariant s) (same : SameButtonState s t) :
    ButtonInvariant t := by
  obtain ⟨hlraw, hstable, hpressed, hreleased, -⟩ := same
  constructor <;> simp only [hlraw, hstable, hpressed, hreleased]
  exacts [inv.lraw_shape, inv.stable_shape, inv.pressed_bit7, inv.released_bit7, inv.pressed_released,
    inv.pressed_stable, inv.released_stable]

theorem buttonInvariant_of_edges_clear {t : State} (hlraw : RawShape t.lraw) (hstable : RawShape t.stable)
    (hpressed : t.pressed = 0) (hreleased : t.released = 0) : ButtonInvariant t := by
  refine ⟨hlraw, hstable, ?_, ?_, ?_, ?_, ?_⟩ <;> simp [hpressed, hreleased]

/-- Of the edges of a commit, the pressed ones lie in the new STABLE, `raw`, and the released ones outside it. -/
theorem buttonInvariant_of_commit {t : State} {raw old : Mask} (hraw : RawShape raw) (hold : RawShape old)
    (hlraw : t.lraw = raw) (hstable : t.stable = raw) (hpressed : t.pressed = pressedEdges raw old)
    (hreleased : t.released = releasedEdges raw old) : ButtonInvariant t := by
  have ⟨raw7, _⟩ := hraw
  have ⟨old7, _⟩ := hold
  constructor <;> simp only [hlraw, hstable, hpressed, hreleased, pressedEdges, releasedEdges]
  case lraw_shape => exact hraw
  case stable_shape => exact hraw
  case pressed_bit7 => rw [BitVec.getLsbD_and, raw7, Bool.false_and]
  case released_bit7 => rw [BitVec.getLsbD_and, old7, Bool.false_and]
  case pressed_released => ext i; simp +contextual
  case pressed_stable => ext i; simp +contextual
  case released_stable => ext i; simp

theorem exec_update_keeps_buttonInvariant (now : Time) (s t : State) (inv : ButtonInvariant s)
    (h : exec (.update now) s = .next t) : ButtonInvariant t := by
  obtain ⟨-, hlraw, ⟨-, hstable, hpressed, hreleased⟩ | ⟨-, hstable, hpressed, hreleased⟩⟩ := exec_update_cases now s t h
  · exact buttonInvariant_of_commit (rawShape_sampleRaw s) inv.stable_shape hlraw hstable hpressed hreleased
  · exact buttonInvariant_of_edges_clear (hlraw ▸ rawShape_sampleRaw s) (hstable ▸ inv.stable_shape) hpressed hreleased

theorem transact_keeps_buttonInvariant (cmd : CmdWord) (opnd : Operand) (s t : State) (inv : ButtonInvariant s)
    (h : transact cmd opnd s = .next t) : ButtonInvariant t := by
  by_cases hd : ∃ now, decode cmd opnd = .command (.update now)
  · obtain ⟨now, hnow⟩ := hd
    exact exec_update_keeps_buttonInvariant now s t inv (by simpa [transact, hnow] using h)
  · exact inv.of_sameButtonState (transact_keeps_buttonState cmd opnd s t h (not_exists.mp hd))

theorem buttonInvariant_applyReset (s : State) : ButtonInvariant s.applyReset :=
  buttonInvariant_of_edges_clear rawShape_zero rawShape_zero rfl rfl

theorem buttonInvariant_resetWith (c : Configuration) : ButtonInvariant (State.resetWith c) :=
  buttonInvariant_of_edges_clear rawShape_zero rawShape_zero rfl rfl

/-- Settles O18: with nothing presented the state stays, a reset clears every mask, and a word either runs an UPDATE or
leaves the button registers. -/
theorem everyStepKeepsTheButtonInvariant : Obligations.EveryStepKeepsTheButtonInvariant := by
  intro s t inv h
  obtain ⟨-, ⟨-, rfl⟩ | ⟨later, -, rfl⟩ | ⟨cmd, opnd, draws, later, -, hrun⟩⟩ := step_cases s t h
  · exact inv
  · exact buttonInvariant_applyReset _
  · have presented := (sameButtonState_present_iff s _ draws later).mp (SameButtonState.refl _)
    exact transact_keeps_buttonInvariant cmd opnd _ t (inv.of_sameButtonState presented) hrun

/-- Settles O19. -/
theorem resetHasTheButtonInvariant : Obligations.ResetHasTheButtonInvariant :=
  ⟨buttonInvariant_resetWith, buttonInvariant_resetWith _⟩

/-- Settles O13: `State.resetWith` writes the nine reset values and the model's own fields out. -/
theorem resetValuesOfEveryRegister : Obligations.ResetValuesOfEveryRegister :=
  ⟨fun _ => ⟨Ports.idle, [], rfl⟩, Configuration.tcfg, rfl⟩

/-! ### PRESSED | RELEASED after an UPDATE (the last bullet of 10_state.md R42) -/

theorem edges_or_ne_zero_iff (raw old : Mask) : pressedEdges raw old ||| releasedEdges raw old ≠ 0 ↔ raw ≠ old := by
  have edges_or : pressedEdges raw old ||| releasedEdges raw old = raw ^^^ old := by
    ext i
    cases hraw : raw[i] <;> simp [pressedEdges, releasedEdges, hraw]
  rw [edges_or]
  exact BitVec.xor_eq_zero_iff.not

/-- Settles O28: a commit needs the sample to differ from STABLE, so its edges are not both empty, and every other
UPDATE clears both masks. -/
theorem edgeMasksMarkExactlyTheCommits : Obligations.EdgeMasksMarkExactlyTheCommits := by
  intro now s t h
  change _ ↔ s.CommitsAt now
  obtain ⟨-, -, ⟨commits, -, hpressed, hreleased⟩ | ⟨noCommit, -, hpressed, hreleased⟩⟩ := exec_update_cases now s t h
  · have ⟨_, _, differs⟩ := commits
    rw [hpressed, hreleased, edges_or_ne_zero_iff]
    exact iff_of_true differs commits
  · simp [hpressed, hreleased, noCommit]

/-! ### The configuration is constant (10_state.md R40) -/

theorem exec_cfg (i : Instr) (s t : State) (h : exec i s = .next t) : t.cfg = s.cfg := by
  obtain ⟨now, rfl⟩ | ⟨v, rfl⟩ := exec_respond_or_update i s t h
  · obtain ⟨hcfg, -⟩ := exec_update_cases now s t h
    exact hcfg
  · exact State.respond_cfg s v

theorem transact_cfg (cmd : CmdWord) (opnd : Operand) (s t : State) (h : transact cmd opnd s = .next t) :
    t.cfg = s.cfg := by
  obtain ⟨i, -, hrun⟩ | ⟨c, -, hill⟩ := transact_cases cmd opnd s
  · exact exec_cfg i s t (hrun ▸ h)
  · obtain rfl : s.respondIllegal = t := by simpa [hill] using h
    exact State.respondIllegal_cfg s

/-- Settles O17. -/
theorem stepNeverWritesConfiguration : Obligations.StepNeverWritesConfiguration := by
  intro s t h
  obtain ⟨-, ⟨-, rfl⟩ | ⟨later, -, rfl⟩ | ⟨cmd, opnd, draws, later, -, hrun⟩⟩ := step_cases s t h
  · rfl
  · simp
  · exact transact_cfg cmd opnd (s.present draws later) t hrun

/-! ### Refusal of an ill-formed configuration (10_state.md R35, R37) -/

theorem strictlyDecreasing_cons_iff (upper lower : Threshold) (rest : List Threshold) :
    strictlyDecreasing (upper :: lower :: rest) = true ↔
      lower.toInt < upper.toInt ∧ strictlyDecreasing (lower :: rest) = true := by
  simp [strictlyDecreasing]

theorem strictlyDecreasing_singleton (entry : Threshold) : strictlyDecreasing [entry] = true := rfl

theorem thr1_toList (c : Configuration) :
    c.thr1.toList = [c.thr1[0], c.thr1[1], c.thr1[2], c.thr1[3], c.thr1[4]] := by
  apply List.ext_getElem
  · simp
  · intro i hi _
    simp at hi
    interval_cases i <;> rfl

theorem thr2_toList (c : Configuration) : c.thr2.toList = [c.thr2[0], c.thr2[1], c.thr2[2]] := by
  apply List.ext_getElem
  · simp
  · intro i hi _
    simp at hi
    interval_cases i <;> rfl

/-- The well-formedness of a configuration, entry by entry. -/
theorem configuration_wellFormed_iff (c : Configuration) :
    c.wellFormed = true ↔
      (c.thr1[1].toInt < c.thr1[0].toInt ∧ c.thr1[2].toInt < c.thr1[1].toInt ∧
        c.thr1[3].toInt < c.thr1[2].toInt ∧ c.thr1[4].toInt < c.thr1[3].toInt) ∧
      (c.thr2[1].toInt < c.thr2[0].toInt ∧ c.thr2[2].toInt < c.thr2[1].toInt) ∧
      1 ≤ c.ratioDen.toNat := by
  have den : c.ratioDen ≠ 0 ↔ 1 ≤ c.ratioDen.toNat := by
    rw [Nat.one_le_iff_ne_zero, ne_eq, ne_eq, BitVec.toNat_eq]
    rfl
  simp only [Configuration.wellFormed, Bool.and_eq_true, decide_eq_true_eq, thr1_toList, thr2_toList,
    strictlyDecreasing_cons_iff, strictlyDecreasing_singleton, and_true, and_assoc, den]

theorem ratioDen_ne_zero_of_wellFormed (c : Configuration) (wf : c.wellFormed = true) : c.ratioDen ≠ 0 := by
  simp only [Configuration.wellFormed, Bool.and_eq_true, decide_eq_true_eq] at wf
  exact wf.right

/-- Only RATIO_DEN = 0 keeps a command from answering (60_exceptions.md R200). -/
theorem exec_answers (i : Instr) (s : State) (den : s.cfg.ratioDen ≠ 0) : ∃ t, exec i s = .next t := by
  cases i with
  | readMv => exact ⟨_, if_neg den⟩
  | readPct => exact ⟨_, if_neg den⟩
  | sample | update | isPressed | wasPressed | wasReleased | wasAnyPressed | wasAnyReleased | getHeldTime
  | getButtonName | pctFromMv => exact ⟨_, rfl⟩

theorem transact_answers (cmd : CmdWord) (opnd : Operand) (s : State) (den : s.cfg.ratioDen ≠ 0) :
    ∃ t, transact cmd opnd s = .next t := by
  obtain ⟨i, -, hrun⟩ | ⟨c, -, hill⟩ := transact_cases cmd opnd s
  · rw [hrun]
    exact exec_answers i s den
  · exact ⟨_, hill⟩

theorem step_answers (s : State) (wf : s.cfg.wellFormed = true) : ∃ t, step s = .next t := by
  have den := ratioDen_ne_zero_of_wellFormed s.cfg wf
  cases hp : s.pending with
  | nil => exact ⟨s, step_nothing s wf hp⟩
  | cons e later =>
    cases e with
    | reset => exact ⟨_, step_reset s later wf hp⟩
    | command cmd opnd draws =>
      rw [step_command s cmd opnd draws later wf hp]
      exact transact_answers cmd opnd (s.present draws later) den

theorem step_refused_iff (s : State) : step s = .refused .illFormedConfiguration ↔ ¬ s.cfg.wellFormed = true := by
  constructor
  · intro h wf
    obtain ⟨t, ht⟩ := step_answers s wf
    simp [ht] at h
  · exact fun illFormed => if_neg illFormed

theorem decodeBand_none_or_band (v : AdcCode) (thr : List Threshold) :
    decodeBand v thr = none ∨ ∃ i, i + 1 < thr.length ∧ decodeBand v thr = some i := by
  cases h : decodeBand v thr with
  | none => exact .inl rfl
  | some i => exact .inr ⟨i, decodeBand_lt v thr i h, rfl⟩

/-- Settles O15: a step on a well-formed configuration always answers, and the model's check of the configuration is the
conjunction the rules write out. -/
theorem illFormedConfigurationIsRefused : Obligations.IllFormedConfigurationIsRefused :=
  ⟨fun s => (step_refused_iff s).trans (configuration_wellFormed_iff s.cfg).not, decodeBand_none_or_band⟩

end Sys2Proof.Machine
end

section
/-! What 20_memory.md says a command sees: the ports it reads (R54), no button state in the gauge's commands, and no state
of another place of the platform (R63). -/

namespace Sys2Proof.Machine

/-! ### A state under another draw of the ports -/

/-- The state with other values on its input ports and every register kept. -/
def State.withDraws (s : State) (p : Ports) : State := { s with ports := p }

theorem clearEdges_withDraws (s : State) (p : Ports) : (s.withDraws p).clearEdges = s.clearEdges.withDraws p := rfl

/-- Answering commutes with a change of draw, and an earlier draw is forgotten. -/
theorem respond_withDraws (s : State) (p q : Ports) (v : ResultWord) :
    (s.withDraws p).respond v = ((s.withDraws q).respond v).withDraws p := rfl

theorem noteRaw_withDraws (s : State) (p : Ports) (now : Time) (raw : Mask) :
    (s.withDraws p).noteRaw now raw = (s.noteRaw now raw).withDraws p := by
  rw [State.noteRaw, State.noteRaw, apply_ite (State.withDraws · p)]
  rfl

theorem captureStart_withDraws (s : State) (p : Ports) (now : Time) (old : Mask) :
    (s.withDraws p).captureStart now old = (s.captureStart now old).withDraws p := by
  rw [State.captureStart, State.captureStart, apply_ite (State.withDraws · p)]
  rfl

theorem captureFinish_withDraws (s : State) (p : Ports) (now : Time) (raw : Mask) :
    (s.withDraws p).captureFinish now raw = (s.captureFinish now raw).withDraws p := by
  rw [State.captureFinish, State.captureFinish, apply_ite (State.withDraws · p)]
  rfl

theorem commit_withDraws (s : State) (p : Ports) (now : Time) (raw : Mask) :
    (s.withDraws p).commit now raw = (s.commit now raw).withDraws p :=
  calc (s.withDraws p).commit now raw
    _ = ((((s.setEdges raw).withDraws p).captureStart now s.stable).captureFinish now raw).setStable raw := rfl
    _ = ((((s.setEdges raw).captureStart now s.stable).captureFinish now raw).withDraws p).setStable raw := by
        rw [captureStart_withDraws, captureFinish_withDraws]

theorem commitIfDue_withDraws (s : State) (p : Ports) (now : Time) (raw : Mask) :
    (s.withDraws p).commitIfDue now raw = (s.commitIfDue now raw).withDraws p := by
  have sameCondition : (s.withDraws p).commitDue now raw = s.commitDue now raw := rfl
  rw [State.commitIfDue, State.commitIfDue, sameCondition, commit_withDraws, apply_ite (State.withDraws · p)]

theorem sampleRaw_withDraws_congr (s : State) {p q : Ports}
    (agree : p.adc1 = q.adc1 ∧ p.adc2 = q.adc2 ∧ p.pwrN = q.pwrN) :
    (s.withDraws p).sampleRaw = (s.withDraws q).sampleRaw := by
  obtain ⟨hadc1, hadc2, hpwrN⟩ := agree
  simp [State.withDraws, hadc1, hadc2, hpwrN]

theorem batRead_withDraws_congr (s : State) {p q : Ports} (agree : p.batIn = q.batIn) :
    (s.withDraws p).batRead = (s.withDraws q).batRead := agree

/-! ### The commands that read a port -/

theorem exec_update_eq (now : Time) (s : State) : exec (.update now) s =
    .next (((s.clearEdges.noteRaw now s.sampleRaw).commitIfDue now s.sampleRaw).respond 0) := rfl

/-- Of the ports an UPDATE sees the raw mask only. -/
theorem exec_update_withDraws (now : Time) (s : State) (p : Ports) : exec (.update now) (s.withDraws p) =
    .next ((((s.clearEdges.noteRaw now (s.withDraws p).sampleRaw).commitIfDue now
      (s.withDraws p).sampleRaw).withDraws p).respond 0) := by
  rw [exec_update_eq, clearEdges_withDraws, noteRaw_withDraws, commitIfDue_withDraws]

theorem exec_readMv_next_iff (s t : State) : exec .readMv s = .next t ↔
    s.cfg.ratioDen ≠ 0 ∧ s.respond (zext32 (scaleMv s.cfg s.batRead)) = t := by
  rw [exec, execReadMv]
  split <;> simp_all

theorem exec_readPct_next_iff (s t : State) : exec .readPct s = .next t ↔
    s.cfg.ratioDen ≠ 0 ∧ s.respond (pct (scaleMv s.cfg s.batRead)) = t := by
  rw [exec, execReadPct]
  split <;> simp_all

/-! ### Which ports a command reads (20_memory.md R54) -/

/-- A draw that agrees on the ports a command reads may replace the one it ran with: the answer is the same, and so is
every register. -/
theorem exec_next_withDraws (i : Instr) (s u : State) (p q : Ports)
    (buttons : readsButtons i = true → p.adc1 = q.adc1 ∧ p.adc2 = q.adc2 ∧ p.pwrN = q.pwrN)
    (battery : readsBattery i = true → p.batIn = q.batIn)
    (h : exec i (s.withDraws q) = .next u) : exec i (s.withDraws p) = .next (u.withDraws p) := by
  cases i with
  | sample =>
    obtain rfl := Host.Outcome.next.inj h
    rw [exec, execSample, sampleRaw_withDraws_congr s (buttons rfl), respond_withDraws s p q]
  | update now =>
    rw [exec_update_withDraws] at h ⊢
    obtain rfl := Host.Outcome.next.inj h
    rw [sampleRaw_withDraws_congr s (buttons rfl), respond_withDraws _ p q]
  | readMv =>
    rw [exec_readMv_next_iff] at h ⊢
    obtain ⟨den, rfl⟩ := h
    rw [batRead_withDraws_congr s (battery rfl)]
    exact ⟨den, respond_withDraws s p q _⟩
  | readPct =>
    rw [exec_readPct_next_iff] at h ⊢
    obtain ⟨den, rfl⟩ := h
    rw [batRead_withDraws_congr s (battery rfl)]
    exact ⟨den, respond_withDraws s p q _⟩
  | isPressed | wasPressed | wasReleased | wasAnyPressed | wasAnyReleased | getHeldTime | getButtonName | pctFromMv =>
    obtain rfl := Host.Outcome.next.inj h
    exact congrArg Host.Outcome.next (respond_withDraws s p q _)

/-- Settles O55: the run under one draw is the run under the other, with the draw replaced. -/
theorem commandsSeeOnlyThePortsTheyRead : Obligations.CommandsSeeOnlyThePortsTheyRead := by
  intro i s p q buttons battery t u ht hu
  have replaced : exec i (s.withDraws p) = .next (u.withDraws p) := exec_next_withDraws i s u p q buttons battery hu
  exact Host.Outcome.next.inj (ht.symm.trans replaced)

/-! ### The gauge commands see no button state (20_memory.md R63) -/

theorem hostView_respond (s : State) (v : ResultWord) : (s.respond v).hostView = (v, 0) := rfl

/-- Divider scaling reads no threshold and no delay, only the ratio (43_polynomial_scaler.md R184). -/
theorem scaleMv_congr {c d : Configuration} (b : BatCode) (num : c.ratioNum = d.ratioNum)
    (den : c.ratioDen = d.ratioDen) : scaleMv c b = scaleMv d b := by
  rw [scaleMv, scaleMv, num, den]

theorem gauge_ne_update {i : Instr} (gauge : i ∈ [Instr.readMv, Instr.readPct] ∨ ∃ mv, i = .pctFromMv mv) (now : Time) :
    i ≠ .update now := by
  rintro rfl
  simp at gauge

/-- Settles O56: each gauge command answers a function of the ratio, the battery draw and its operand, and no command
but UPDATE writes a button register. -/
theorem gaugeReadsNoButtonState : Obligations.GaugeReadsNoButtonState := by
  intro i s t s' t' gauge num den bat hs ht
  refine ⟨?_, exec_keeps_buttonState i s s' hs (gauge_ne_update gauge)⟩
  have sameScaled : scaleMv s.cfg s.batRead = scaleMv t.cfg t.batRead := by
    rw [scaleMv_congr _ num den, State.batRead, bat, State.batRead]
  obtain hread | ⟨mv, rfl⟩ := gauge
  · obtain rfl | rfl : i = .readMv ∨ i = .readPct := by simpa using hread
    · obtain ⟨-, rfl⟩ := (exec_readMv_next_iff s s').mp hs
      obtain ⟨-, rfl⟩ := (exec_readMv_next_iff t t').mp ht
      rw [hostView_respond, hostView_respond, sameScaled]
    · obtain ⟨-, rfl⟩ := (exec_readPct_next_iff s s').mp hs
      obtain ⟨-, rfl⟩ := (exec_readPct_next_iff t t').mp ht
      rw [hostView_respond, hostView_respond, sameScaled]
  · obtain rfl := Host.Outcome.next.inj hs
    obtain rfl := Host.Outcome.next.inj ht
    rw [hostView_respond, hostView_respond]

/-! ### The places of a platform (20_memory.md R63, 60_exceptions.md R211) -/

/-- Where the state at a place steps, only that place of the platform is written. -/
theorem stepInstance_next {k : Nat} {platform : List State} {s t : State} (hk : platform[k]? = some s)
    (hstep : step s = .next t) : stepInstance k platform = .next (platform.set k t) := by
  simp [stepInstance, hk, hstep]

/-- Settles O57: both platforms get the step's answer at place `k`, and setting one place of a list keeps the others. -/
theorem instancesShareNothing : Obligations.InstancesShareNothing := by
  intro k platform other s hk hk' wf
  obtain ⟨t, hstep⟩ := step_answers s wf
  obtain ⟨hlt, -⟩ := List.getElem?_eq_some_iff.mp hk
  obtain ⟨hlt', -⟩ := List.getElem?_eq_some_iff.mp hk'
  refine ⟨t, platform.set k t, other.set k t, hstep, stepInstance_next hk hstep, stepInstance_next hk' hstep,
    List.length_set, List.getElem?_set_self hlt, List.getElem?_set_self hlt', fun j hj => ?_⟩
  exact ⟨List.getElem?_set_ne hj.symm, List.getElem?_set_ne hj.symm⟩

end Sys2Proof.Machine
end

section
/-! The encoding rules of 30_encoding.md: the fields of a command word (R71), the rows of the opcode map (R72), and the
decoder and the encoder told in their terms (R75, R76). -/

namespace Sys2Proof

/-! ### The fields of a command word (30_encoding.md R71) -/

theorem cmdOp_and (a b : CmdWord) : cmdOp (a &&& b) = cmdOp a &&& cmdOp b := BitVec.extractLsb'_and
theorem cmdRsv_and (a b : CmdWord) : cmdRsv (a &&& b) = cmdRsv a &&& cmdRsv b := BitVec.extractLsb'_and
theorem cmdIdx_and (a b : CmdWord) : cmdIdx (a &&& b) = cmdIdx a &&& cmdIdx b := BitVec.extractLsb'_and
theorem cmdOp_or (a b : CmdWord) : cmdOp (a ||| b) = cmdOp a ||| cmdOp b := BitVec.extractLsb'_or
theorem cmdRsv_or (a b : CmdWord) : cmdRsv (a ||| b) = cmdRsv a ||| cmdRsv b := BitVec.extractLsb'_or
theorem cmdIdx_or (a b : CmdWord) : cmdIdx (a ||| b) = cmdIdx a ||| cmdIdx b := BitVec.extractLsb'_or

theorem cmdOp_toNat (cmd : CmdWord) : (cmdOp cmd).toNat = cmd.toNat / 4096 := by
  have := cmd.isLt
  rw [cmdOp, BitVec.extractLsb'_toNat, Nat.shiftRight_eq_div_pow]
  omega

theorem cmdRsv_toNat (cmd : CmdWord) : (cmdRsv cmd).toNat = cmd.toNat / 256 % 16 := by
  rw [cmdRsv, BitVec.extractLsb'_toNat, Nat.shiftRight_eq_div_pow]

theorem cmdIdx_toNat (cmd : CmdWord) : (cmdIdx cmd).toNat = cmd.toNat % 256 := by
  rw [cmdIdx, BitVec.extractLsb'_toNat, Nat.shiftRight_zero]

/-- OP, RSV and IDX together are the whole word. -/
theorem cmdWord_ext_iff (a b : CmdWord) :
    a = b ↔ cmdOp a = cmdOp b ∧ cmdRsv a = cmdRsv b ∧ cmdIdx a = cmdIdx b := by
  simp only [BitVec.toNat_eq, cmdOp_toNat, cmdRsv_toNat, cmdIdx_toNat]
  omega

/-! ### The columns of the opcode map (30_encoding.md R72) -/

theorem cmdRsv_matchWord (m : Mnemonic) : cmdRsv (matchWord m) = 0 := by cases m <;> rfl
theorem cmdIdx_matchWord (m : Mnemonic) : cmdIdx (matchWord m) = 0 := by cases m <;> rfl
theorem cmdOp_maskWord (m : Mnemonic) : cmdOp (maskWord m) = BitVec.allOnes 4 := by cases m <;> rfl
theorem cmdRsv_maskWord (m : Mnemonic) : cmdRsv (maskWord m) = BitVec.allOnes 4 := by cases m <;> rfl

/-- The mask leaves IDX free on class I alone (30_encoding.md R74). -/
theorem cmdIdx_maskWord (m : Mnemonic) :
    cmdIdx (maskWord m) = if m.operandClass = .index then 0 else BitVec.allOnes 8 := by
  cases m <;> rfl

/-- OP selects the row whose match word has that OP. -/
theorem selectMnemonic_eq_some_iff (op : BitVec 4) (m : Mnemonic) :
    selectMnemonic op = some m ↔ op = cmdOp (matchWord m) := by
  revert op
  cases m <;> decide

/-- A word matches a row iff it passes the decoder's checks of OP, RSV and IDX for that row's command
(30_encoding.md R72, R76). -/
theorem rowMatches_iff_fields (m : Mnemonic) (cmd : CmdWord) :
    rowMatches m cmd = true ↔
      selectMnemonic (cmdOp cmd) = some m ∧ cmdRsv cmd = 0 ∧ (m.operandClass ≠ .index → cmdIdx cmd = 0) := by
  rw [rowMatches, beq_iff_eq, cmdWord_ext_iff, selectMnemonic_eq_some_iff, cmdOp_and, cmdOp_maskWord,
    BitVec.and_allOnes, cmdRsv_and, cmdRsv_maskWord, BitVec.and_allOnes, cmdRsv_matchWord, cmdIdx_and,
    cmdIdx_maskWord, cmdIdx_matchWord]
  by_cases index : m.operandClass = .index
  · simp [index]
  · rw [if_neg index, BitVec.and_allOnes]
    simp [index]

/-- The rows differ in OP, and every mask covers OP. -/
theorem rowMatches_unique {m m' : Mnemonic} {cmd : CmdWord} (h : rowMatches m cmd = true)
    (h' : rowMatches m' cmd = true) : m = m' := by
  obtain ⟨hop, -⟩ := (rowMatches_iff_fields m cmd).mp h
  obtain ⟨hop', -⟩ := (rowMatches_iff_fields m' cmd).mp h'
  exact Option.some.inj (hop.symm.trans hop')

/-! ### The words of a class -/

/-- An index put at the low end of a word is its IDX and touches no other field. -/
theorem fields_setWidth (idx : ButtonIdx) :
    cmdOp (idx.setWidth 16) = 0 ∧ cmdRsv (idx.setWidth 16) = 0 ∧ cmdIdx (idx.setWidth 16) = idx := by
  have value : (idx.setWidth 16).toNat = idx.toNat := BitVec.toNat_setWidth_of_le (by decide)
  have := idx.isLt
  refine ⟨?_, ?_, ?_⟩ <;> apply BitVec.eq_of_toNat_eq
  · rw [cmdOp_toNat, value]
    exact Nat.div_eq_of_lt (by omega)
  · rw [cmdRsv_toNat, value, Nat.div_eq_of_lt (by omega)]
    rfl
  · rw [cmdIdx_toNat, value]
    omega

theorem fields_indexedWord (m : Mnemonic) (idx : ButtonIdx) :
    cmdOp (indexedWord m idx) = cmdOp (matchWord m) ∧ cmdRsv (indexedWord m idx) = 0 ∧
    cmdIdx (indexedWord m idx) = idx := by
  obtain ⟨hop, hrsv, hidx⟩ := fields_setWidth idx
  rw [indexedWord, cmdOp_or, hop, cmdRsv_or, hrsv, cmdIdx_or, hidx, cmdRsv_matchWord, cmdIdx_matchWord]
  exact ⟨BitVec.or_zero, rfl, BitVec.zero_or⟩

theorem cmdIdx_indexedWord (m : Mnemonic) (idx : ButtonIdx) : cmdIdx (indexedWord m idx) = idx := by
  obtain ⟨-, -, hidx⟩ := fields_indexedWord m idx
  exact hidx

/-- A matching word is the match word with its own IDX put in. -/
theorem indexedWord_of_rowMatches {m : Mnemonic} {cmd : CmdWord} (h : rowMatches m cmd = true) :
    indexedWord m (cmdIdx cmd) = cmd := by
  obtain ⟨hop, hrsv, -⟩ := (rowMatches_iff_fields m cmd).mp h
  obtain ⟨hop', hrsv', hidx'⟩ := fields_indexedWord m (cmdIdx cmd)
  rw [selectMnemonic_eq_some_iff] at hop
  exact (cmdWord_ext_iff _ _).mpr ⟨hop'.trans hop.symm, hrsv'.trans hrsv.symm, hidx'⟩

/-- A class that takes no index has one word, the match word itself. -/
theorem matchWord_of_rowMatches {m : Mnemonic} {cmd : CmdWord} (h : rowMatches m cmd = true)
    (notIndex : m.operandClass ≠ .index) : matchWord m = cmd := by
  obtain ⟨hop, hrsv, hidx⟩ := (rowMatches_iff_fields m cmd).mp h
  rw [selectMnemonic_eq_some_iff] at hop
  exact (cmdWord_ext_iff _ _).mpr
    ⟨hop.symm, (cmdRsv_matchWord m).trans hrsv.symm, (cmdIdx_matchWord m).trans (hidx notIndex).symm⟩

/-! ### The operand of class M (30_encoding.md R75) -/

theorem opndMillivolts_setWidth (mv : Millivolts) : opndMillivolts (mv.setWidth 32) = mv := by
  apply BitVec.eq_of_toNat_eq
  have := mv.isLt
  rw [opndMillivolts, BitVec.extractLsb'_toNat, Nat.shiftRight_zero, BitVec.toNat_setWidth]
  omega

theorem setWidth_opndMillivolts {opnd : Operand} (h : opndHigh opnd = 0) :
    (opndMillivolts opnd).setWidth 32 = opnd := by
  have high : (opndHigh opnd).toNat = 0 := by rw [h]; rfl
  rw [opndHigh, BitVec.extractLsb'_toNat, Nat.shiftRight_eq_div_pow] at high
  apply BitVec.eq_of_toNat_eq
  have := opnd.isLt
  rw [opndMillivolts, BitVec.toNat_setWidth, BitVec.extractLsb'_toNat, Nat.shiftRight_zero]
  omega

/-! ### The decoder and the encoder (30_encoding.md R75, R76) -/

theorem assembleInstr_mnemonic (m : Mnemonic) (idx : ButtonIdx) (opnd : Operand) :
    (assembleInstr m idx opnd).mnemonic = m := by
  cases m <;> rfl

/-- What the encoder writes for an assembled command, class by class. -/
theorem encode_assembleInstr (m : Mnemonic) (idx : ButtonIdx) (opnd : Operand) :
    encode (assembleInstr m idx opnd) =
      match m.operandClass with
      | .noArgument => (matchWord m, 0)
      | .index => (indexedWord m idx, 0)
      | .time => (matchWord m, opnd)
      | .millivolts => (matchWord m, (opndMillivolts opnd).setWidth 32) := by
  cases m <;> rfl

/-- The decoder answers a command iff the word matches its row and OPND[31:16] is clear where the class is M; the
arguments are the fields. -/
theorem decode_eq_command_iff (cmd : CmdWord) (opnd : Operand) (i : Instr) :
    decode cmd opnd = .command i ↔
      rowMatches i.mnemonic cmd = true ∧ (i.mnemonic.operandClass = .millivolts → opndHigh opnd = 0) ∧
      assembleInstr i.mnemonic (cmdIdx cmd) opnd = i := by
  rw [rowMatches_iff_fields]
  unfold decode
  constructor
  · intro h
    split at h
    next => simp at h
    next m hop =>
      split_ifs at h with hrsv hidx hhigh
      obtain rfl := Decoded.command.inj h
      rw [assembleInstr_mnemonic]
      push Not at hrsv hidx hhigh
      exact ⟨⟨hop, hrsv, hidx⟩, hhigh, rfl⟩
  · rintro ⟨⟨hop, hrsv, hidx⟩, hhigh, harg⟩
    simp only [hop]
    rw [if_neg (not_not.mpr hrsv), if_neg fun ⟨hclass, hne⟩ => hne (hidx hclass),
      if_neg fun ⟨hclass, hne⟩ => hne (hhigh hclass), harg]

/-- The fields of an encoding are the arguments it was made from. -/
theorem assembleInstr_encode (i : Instr) : assembleInstr i.mnemonic (cmdIdx (encode i).1) (encode i).2 = i := by
  cases i with
  | isPressed idx => exact congrArg Instr.isPressed (cmdIdx_indexedWord .isPressed idx)
  | wasPressed idx => exact congrArg Instr.wasPressed (cmdIdx_indexedWord .wasPressed idx)
  | wasReleased idx => exact congrArg Instr.wasReleased (cmdIdx_indexedWord .wasReleased idx)
  | getButtonName idx => exact congrArg Instr.getButtonName (cmdIdx_indexedWord .getButtonName idx)
  | pctFromMv mv => exact congrArg Instr.pctFromMv (opndMillivolts_setWidth mv)
  | sample | update | wasAnyPressed | wasAnyReleased | getHeldTime | readMv | readPct => rfl

theorem encodingInRow (i : Instr) : Laws.EncodingInRow.Statement i := by
  cases i with
  | sample => exact Laws.EncodingInRow.sample
  | update now => exact Laws.EncodingInRow.update now
  | isPressed idx => exact Laws.EncodingInRow.isPressed idx
  | wasPressed idx => exact Laws.EncodingInRow.wasPressed idx
  | wasReleased idx => exact Laws.EncodingInRow.wasReleased idx
  | wasAnyPressed => exact Laws.EncodingInRow.wasAnyPressed
  | wasAnyReleased => exact Laws.EncodingInRow.wasAnyReleased
  | getHeldTime now => exact Laws.EncodingInRow.getHeldTime now
  | getButtonName idx => exact Laws.EncodingInRow.getButtonName idx
  | pctFromMv mv => exact Laws.EncodingInRow.pctFromMv mv
  | readMv => exact Laws.EncodingInRow.readMv
  | readPct => exact Laws.EncodingInRow.readPct

theorem decode_encode (i : Instr) : decode (encode i).1 (encode i).2 = .command i := by
  obtain ⟨inRow, highClear⟩ := encodingInRow i
  exact (decode_eq_command_iff _ _ _).mpr ⟨inRow, highClear, assembleInstr_encode i⟩

/-- Settles O1: an encoding matches its own row, keeps OPND[31:16] clear on class M, and holds its arguments in the
fields the decoder reads. -/
theorem decodeOfEncodeIsTheInstruction : Obligations.DecodeOfEncodeIsTheInstruction :=
  fun i _ => decode_encode i

/-- Class by class, the encoder puts a matching word together again from its row and its IDX. -/
theorem encode_assembleInstr_word {m : Mnemonic} {cmd : CmdWord} (h : rowMatches m cmd = true) (opnd : Operand) :
    (encode (assembleInstr m (cmdIdx cmd) opnd)).1 = cmd := by
  rw [encode_assembleInstr]
  cases hclass : m.operandClass with
  | index => exact indexedWord_of_rowMatches h
  | noArgument | time | millivolts => exact matchWord_of_rowMatches h (by simp [hclass])

/-- The encoder keeps an operand that the class reads and the decoder accepts. -/
theorem encode_assembleInstr_operand {m : Mnemonic} {opnd : Operand} (idx : ButtonIdx)
    (reads : m.operandClass = .time ∨ m.operandClass = .millivolts)
    (highClear : m.operandClass = .millivolts → opndHigh opnd = 0) :
    (encode (assembleInstr m idx opnd)).2 = opnd := by
  rw [encode_assembleInstr]
  obtain time | millivolts := reads
  · rw [time]
  · rw [millivolts]
    exact setWidth_opndMillivolts (highClear millivolts)

/-- Settles O2: the instruction is its row's command with the fields of the pair as arguments, and the encoder writes
those fields again. -/
theorem legalPairIsAnEncoding : Obligations.LegalPairIsAnEncoding := by
  intro cmd opnd i h
  obtain ⟨inRow, highClear, args⟩ := (decode_eq_command_iff cmd opnd i).mp h
  have word := encode_assembleInstr_word inRow opnd
  rw [args] at word
  refine ⟨word, fun reads => ?_⟩
  have operand := encode_assembleInstr_operand (cmdIdx cmd) reads highClear
  rwa [args] at operand

/-! ### The opcode map as a list of rows -/

/-- The twelve commands in the document's order. -/
def mnemonics : List Mnemonic := Machine.mnemonicTable.map Prod.snd

theorem mem_mnemonics (m : Mnemonic) : m ∈ mnemonics := by cases m <;> decide

/-- The opcode map's row of a command: mnemonic, match and mask (30_encoding.md R72). -/
def opcodeRow (m : Mnemonic) : Mnemonic × CmdWord × CmdWord := (m, matchWord m, maskWord m)

theorem rowMatches_iff_opcodeRow (m : Mnemonic) (cmd : CmdWord) :
    cmd &&& (opcodeRow m).2.2 = (opcodeRow m).2.1 ↔ rowMatches m cmd = true := beq_iff_eq.symm

theorem decode_of_rowMatches {m : Mnemonic} {cmd : CmdWord} {opnd : Operand} (h : rowMatches m cmd = true)
    (highClear : m.operandClass = .millivolts → opndHigh opnd = 0) :
    decode cmd opnd = .command (assembleInstr m (cmdIdx cmd) opnd) := by
  rw [decode_eq_command_iff, assembleInstr_mnemonic]
  exact ⟨h, highClear, rfl⟩

/-- A row's words are those that decode to its command under some operand, OPND = 0 among them. -/
theorem rowMatches_iff_decodes (m : Mnemonic) (cmd : CmdWord) :
    rowMatches m cmd = true ↔ ∃ (opnd : Operand) (i : Instr), decode cmd opnd = .command i ∧ i.mnemonic = m := by
  constructor
  · exact fun h => ⟨0, _, decode_of_rowMatches h fun _ => rfl, assembleInstr_mnemonic m _ 0⟩
  · rintro ⟨opnd, i, hdec, rfl⟩
    obtain ⟨inRow, -⟩ := (decode_eq_command_iff cmd opnd i).mp hdec
    exact inRow

/-- Settles O4: the rows written out are the model's, so the claim is the decoder's in terms of rows. -/
theorem rowSelectsItsCommand : Obligations.RowSelectsItsCommand := by
  unfold Obligations.RowSelectsItsCommand
  intro rows
  have mem_rows : ∀ r, r ∈ rows ↔ ∃ m ∈ mnemonics, opcodeRow m = r := fun r => by
    rw [show rows = mnemonics.map opcodeRow from rfl, List.mem_map]
  refine ⟨fun m => ⟨opcodeRow m, (mem_rows _).mpr ⟨m, mem_mnemonics m, rfl⟩, rfl⟩, fun r hr cmd => ?_,
    fun r hr q hq cmd hrow hrow' => ?_⟩
  · obtain ⟨m, -, rfl⟩ := (mem_rows r).mp hr
    exact (rowMatches_iff_opcodeRow m cmd).trans (rowMatches_iff_decodes m cmd)
  · obtain ⟨m, -, rfl⟩ := (mem_rows r).mp hr
    obtain ⟨m', -, rfl⟩ := (mem_rows q).mp hq
    rw [rowMatches_iff_opcodeRow] at hrow hrow'
    rw [rowMatches_unique hrow hrow']

end Sys2Proof
end

section
/-! The illegal words of 30_encoding.md (R73, R77), the operand a class ignores (R75), the transaction (R70) and the
assembler (R79 to R81). -/

namespace Sys2Proof.Machine

/-! ### Illegal words (30_encoding.md R73, R77) -/

theorem isIllegal_eq_false_iff (cmd : CmdWord) (opnd : Operand) :
    isIllegal cmd opnd = false ↔ ∃ i, decode cmd opnd = .command i := by
  unfold isIllegal
  cases decode cmd opnd <;> simp

theorem isIllegal_of_no_row {cmd : CmdWord} (h : ∀ m, rowMatches m cmd ≠ true) (opnd : Operand) :
    isIllegal cmd opnd = true := by
  rw [← Bool.not_eq_false, isIllegal_eq_false_iff]
  rintro ⟨i, hdec⟩
  obtain ⟨inRow, -⟩ := (decode_eq_command_iff cmd opnd i).mp hdec
  exact h _ inRow

/-- With OPND = 0 no check but those of the row can fail. -/
theorem isIllegal_zero_eq_false_iff (cmd : CmdWord) : isIllegal cmd 0 = false ↔ ∃ m, rowMatches m cmd = true := by
  constructor
  · intro h
    obtain ⟨i, hdec⟩ := (isIllegal_eq_false_iff cmd 0).mp h
    exact ⟨i.mnemonic, (rowMatches_iff_decodes _ _).mpr ⟨0, i, hdec, rfl⟩⟩
  · rintro ⟨m, h⟩
    exact (isIllegal_eq_false_iff cmd 0).mpr ⟨_, decode_of_rowMatches h fun _ => rfl⟩

theorem transact_of_isIllegal {cmd : CmdWord} {opnd : Operand} (h : isIllegal cmd opnd = true) (s : State) :
    transact cmd opnd s = .next s.respondIllegal := by
  obtain ⟨c, hdec⟩ := (isIllegal_iff cmd opnd).mp h
  simp only [transact, hdec]

theorem transact_of_command {cmd : CmdWord} {opnd : Operand} {i : Instr} (h : decode cmd opnd = .command i)
    (s : State) : transact cmd opnd s = exec i s := by
  simp only [transact, h]

/-- Settles O5: every row asks for RSV = 0. -/
theorem reservedFieldIsIllegal : Obligations.ReservedFieldIsIllegal := by
  intro cmd opnd hrsv
  have illegal : isIllegal cmd opnd = true := by
    refine isIllegal_of_no_row (fun m inRow => hrsv ?_) opnd
    obtain ⟨-, zero, -⟩ := (rowMatches_iff_fields m cmd).mp inRow
    rw [← cmdRsv_toNat, zero]
    rfl
  exact ⟨illegal, transact_of_isIllegal illegal⟩

/-! ### The count of legal words (30_encoding.md R77) -/

/-- How many words a row has: one for each index on class I, else the match word alone. -/
def rowSize (m : Mnemonic) : Nat := if m.operandClass = .index then 256 else 1

theorem rowMatches_iff_interval (m : Mnemonic) (cmd : CmdWord) :
    rowMatches m cmd = true ↔
      (matchWord m).toNat ≤ cmd.toNat ∧ cmd.toNat < (matchWord m).toNat + rowSize m := by
  have aligned : (matchWord m).toNat % 4096 = 0 := by cases m <;> rfl
  simp only [rowMatches_iff_fields, selectMnemonic_eq_some_iff, BitVec.toNat_eq, cmdOp_toNat, cmdRsv_toNat,
    cmdIdx_toNat, rowSize, BitVec.ofNat_eq_ofNat, BitVec.toNat_ofNat]
  by_cases index : m.operandClass = .index
  · simp only [index, ne_eq, not_true_eq_false, false_implies, and_true, if_true]
    omega
  · simp only [index, ne_eq, not_false_eq_true, true_implies, if_false]
    omega

theorem row_below_reserved (m : Mnemonic) : (matchWord m).toNat + rowSize m ≤ 0xC000 := by
  cases m <;> decide

/-- The CMD values of a row. -/
def rowWords (m : Mnemonic) : Finset Nat := Finset.Ico (matchWord m).toNat ((matchWord m).toNat + rowSize m)

theorem mem_rowWords_iff (m : Mnemonic) {n : Nat} (hn : n < 65536) :
    n ∈ rowWords m ↔ rowMatches m (BitVec.ofNat 16 n) = true := by
  rw [rowMatches_iff_interval, BitVec.toNat_ofNat, Nat.mod_eq_of_lt hn, rowWords, Finset.mem_Ico]

theorem lt_of_mem_rowWords {m : Mnemonic} {n : Nat} (h : n ∈ rowWords m) : n < 65536 := by
  have := row_below_reserved m
  have := (Finset.mem_Ico.mp h).right
  omega

/-- The legal words are the union of the rows. -/
theorem filter_legal_eq_biUnion :
    (Finset.range 65536).filter (fun n => (!isIllegal (BitVec.ofNat 16 n) 0) = true) =
      mnemonics.toFinset.biUnion rowWords := by
  ext n
  simp only [Finset.mem_filter, Finset.mem_range, Finset.mem_biUnion, List.mem_toFinset, Bool.not_eq_true',
    isIllegal_zero_eq_false_iff]
  constructor
  · rintro ⟨hn, m, h⟩
    exact ⟨m, mem_mnemonics m, (mem_rowWords_iff m hn).mpr h⟩
  · rintro ⟨m, -, h⟩
    have hn := lt_of_mem_rowWords h
    exact ⟨hn, m, (mem_rowWords_iff m hn).mp h⟩

theorem rowWords_disjoint : (mnemonics.toFinset : Set Mnemonic).PairwiseDisjoint rowWords := by
  intro m _ m' _ hne
  refine Finset.disjoint_left.mpr fun n h h' => hne ?_
  have hn := lt_of_mem_rowWords h
  exact rowMatches_unique ((mem_rowWords_iff m hn).mp h) ((mem_rowWords_iff m' hn).mp h')

theorem countP_range_eq_card (p : Nat → Bool) (n : Nat) :
    (List.range n).countP p = ((Finset.range n).filter (fun k => p k = true)).card := by
  rw [List.countP_eq_length_filter, ← Nat.count_eq_card_filter_range, Nat.count, List.countP_eq_length_filter]
  simp only [Bool.decide_eq_true]

/-- A list's count from the count of its complement. The numbers stay open: given a sum of closed counts, the kernel
evaluates each count. -/
theorem countP_range_of_countP_not {p : Nat → Bool} {n out within : Nat}
    (h : (List.range n).countP (fun k => !p k) = out) (sum : within + out = n) : (List.range n).countP p = within := by
  have total := List.length_eq_countP_add_countP p (l := List.range n)
  simp only [List.length_range, Bool.not_eq_true, Bool.decide_eq_false, h] at total
  omega

theorem countP_legal : (List.range 65536).countP (fun n => !isIllegal (BitVec.ofNat 16 n) 0) = 1032 :=
  calc (List.range 65536).countP (fun n => !isIllegal (BitVec.ofNat 16 n) 0)
    _ = ((Finset.range 65536).filter (fun n => (!isIllegal (BitVec.ofNat 16 n) 0) = true)).card :=
        countP_range_eq_card _ _
    _ = ∑ m ∈ mnemonics.toFinset, (rowWords m).card := by
        rw [filter_legal_eq_biUnion, Finset.card_biUnion rowWords_disjoint]
    _ = ∑ m ∈ mnemonics.toFinset, rowSize m := by simp [rowWords]
    _ = 1032 := by decide

/-- Settles O6: the rows are disjoint, four of 256 words and eight of one, and end below 0xC000. -/
theorem countOfLegalWords : Obligations.CountOfLegalWords := by
  refine ⟨countP_legal, countP_range_of_countP_not countP_legal rfl, fun cmd opnd reserved => ?_⟩
  refine isIllegal_of_no_row (fun m inRow => ?_) opnd
  have := ((rowMatches_iff_interval m cmd).mp inRow).right
  have := row_below_reserved m
  omega

/-! ### The operand a class ignores (30_encoding.md R75) -/

/-- The decoder reads OPND on the classes T and M only. -/
theorem decode_congr_operand {cmd : CmdWord} {m : Mnemonic} (hop : selectMnemonic (cmdOp cmd) = some m)
    (ignores : m.operandClass = .noArgument ∨ m.operandClass = .index) (opnd opnd' : Operand) :
    decode cmd opnd = decode cmd opnd' := by
  have notMillivolts : m.operandClass ≠ .millivolts := by
    rintro h
    simp [h] at ignores
  have sameArgs : assembleInstr m (cmdIdx cmd) opnd = assembleInstr m (cmdIdx cmd) opnd' := by
    cases m with
    | update | getHeldTime | pctFromMv => simp [Mnemonic.operandClass] at ignores
    | sample | isPressed | wasPressed | wasReleased | wasAnyPressed | wasAnyReleased | getButtonName | readMv
    | readPct => rfl
  simp only [decode, hop, notMillivolts, false_and, sameArgs]

/-- Settles O7. -/
theorem operandIgnoredByClassesNAndI : Obligations.OperandIgnoredByClassesNAndI := by
  intro cmd m hop ignores opnd opnd' s
  rw [transact, transact, decode_congr_operand hop ignores opnd opnd']

/-- Settles O8: six of the words are what the encoder writes for their commands; the seventh has an OPND above 16 bits
on class M. -/
theorem sampleWordsDecode : Obligations.SampleWordsDecode :=
  ⟨decode_encode .sample, decode_encode (.update 0xFFFFFFFF), decode_encode (.isPressed 6),
    decode_encode (.getButtonName 255), decode_encode (.pctFromMv 65535), by decide, decode_encode .readPct⟩

/-! ### The step runs the word presented (30_encoding.md R70) -/

/-- Settles O9. -/
theorem stepRunsTheDecodedCommand : Obligations.StepRunsTheDecodedCommand := by
  intro s cmd opnd draws later i wf hp hdec _
  rw [step_command s cmd opnd draws later wf hp, transact_of_command hdec]
  rfl

theorem decodeTableWord_eq_some_iff (nbits w : Nat) (i : Instr) :
    decodeTableWord nbits w = some i ↔ decode (tableCmd nbits w) (tableOpnd nbits w) = .command i := by
  unfold decodeTableWord
  cases decode (tableCmd nbits w) (tableOpnd nbits w) <;> simp

/-- Settles O10: the presented event carries the state's own port values, so taking it gives the state back. -/
theorem presentedWordRunsNext : Obligations.PresentedWordRunsNext := by
  intro s nbits w i wf hdec
  have taken : step (s.withFetchWord nbits w) = transact (tableCmd nbits w) (tableOpnd nbits w) s :=
    step_command (s.withFetchWord nbits w) _ _ s.ports s.pending wf rfl
  rw [taken, transact_of_command ((decodeTableWord_eq_some_iff nbits w i).mp hdec)]

/-! ### The assembler (30_encoding.md R79 to R81) -/

theorem wellFormed_instr (i : Instr) : i.toAsm.wellFormed = true := by
  cases i with
  | sample => exact Laws.OperandInRange.sample
  | update now => exact Laws.OperandInRange.update now
  | isPressed idx => exact Laws.OperandInRange.isPressed idx
  | wasPressed idx => exact Laws.OperandInRange.wasPressed idx
  | wasReleased idx => exact Laws.OperandInRange.wasReleased idx
  | wasAnyPressed => exact Laws.OperandInRange.wasAnyPressed
  | wasAnyReleased => exact Laws.OperandInRange.wasAnyReleased
  | getHeldTime now => exact Laws.OperandInRange.getHeldTime now
  | getButtonName idx => exact Laws.OperandInRange.getButtonName idx
  | pctFromMv mv => exact Laws.OperandInRange.pctFromMv mv
  | readMv => exact Laws.OperandInRange.readMv
  | readPct => exact Laws.OperandInRange.readPct

theorem asmInstr_of_wellFormed {c : AsmCommand} (h : c.wellFormed = true) :
    asmInstr c = some (assembleInstr c.mnemonic (BitVec.ofNat 8 (c.arg.getD 0)) (BitVec.ofNat 32 (c.arg.getD 0))) :=
  if_pos h

theorem asmInstr_eq_none_iff (c : AsmCommand) : asmInstr c = none ↔ ¬ c.wellFormed = true := by
  simp [asmInstr]

theorem assembleCommand_of_asmInstr {c : AsmCommand} {i : Instr} (h : asmInstr c = some i) :
    assembleCommand c = .word (encode i).1 (encode i).2 := by
  simp only [assembleCommand, h]

theorem assembleCommand_refused_iff (c : AsmCommand) : assembleCommand c = .refused ↔ ¬ c.wellFormed = true := by
  rw [← asmInstr_eq_none_iff, assembleCommand]
  cases asmInstr c <;> simp

/-- The number of the assembly form is the operand, read back at its own width. -/
theorem asmInstr_toAsm (i : Instr) : asmInstr i.toAsm = some i := by
  rw [asmInstr_of_wellFormed (wellFormed_instr i)]
  cases i with
  | sample | wasAnyPressed | wasAnyReleased | readMv | readPct => rfl
  | update now | getHeldTime now => simp [Instr.toAsm, assembleInstr, opndNow]
  | isPressed idx | wasPressed idx | wasReleased idx | getButtonName idx => simp [Instr.toAsm, assembleInstr]
  | pctFromMv mv =>
    have widen : BitVec.ofNat 32 mv.toNat = mv.setWidth 32 := BitVec.ofNat_toNat 32 mv
    simp [Instr.toAsm, assembleInstr, widen, opndMillivolts_setWidth]

/-- The range of a number after a mnemonic, class by class. -/
theorem asmCommand_wellFormed_some_iff (m : Mnemonic) (n : Nat) :
    AsmCommand.wellFormed ⟨m, some n⟩ = true ↔
      (m.operandClass = .index ∧ n ≤ 255) ∨ (m.operandClass = .time ∧ n < 4294967296) ∨
      (m.operandClass = .millivolts ∧ n ≤ 65535) := by
  cases hclass : m.operandClass <;> simp [AsmCommand.wellFormed, hclass]

/-- Settles O58. -/
theorem assemblerEncodesAndRefuses : Obligations.AssemblerEncodesAndRefuses := by
  refine ⟨fun i => assembleCommand_of_asmInstr (asmInstr_toAsm i), fun m n => ?_⟩
  rw [assembleCommand_refused_iff, asmCommand_wellFormed_some_iff]
  cases hclass : m.operandClass <;> simp

/-- Settles O59: SAMPLE only responds. -/
theorem nopAssemblesToSample : Obligations.NopAssemblesToSample :=
  ⟨by decide, decode_encode .sample, fun s => ⟨s.respond (zext32 s.sampleRaw), rfl, rfl⟩⟩

/-- On class I a name of the table is read before any number. -/
theorem argumentOf_index {m : Mnemonic} (index : m.operandClass = .index) (w : List Char) :
    argumentOf m w = (lookupWord w indexNames).or (numberOf w) := by
  unfold argumentOf
  rw [index]
  cases lookupWord w indexNames <;> rfl

/-- Settles O60: the seven names stand in the table, and a number up to 255 keeps its value in IDX. -/
theorem symbolicIndicesAreAccepted : Obligations.SymbolicIndicesAreAccepted := by
  intro m index
  refine ⟨?_, fun n hn => ?_⟩
  · simp only [argumentOf_index index]
    decide
  · have inRange := (asmCommand_wellFormed_some_iff m n).mpr (.inl ⟨index, hn⟩)
    rw [assembleCommand_of_asmInstr (asmInstr_of_wellFormed inRange), encode_assembleInstr, index]
    have widen : (BitVec.ofNat 8 n).setWidth 16 = BitVec.ofNat 16 n :=
      BitVec.setWidth_ofNat_of_le_of_lt (by decide) (by omega)
    rw [← widen]
    rfl

end Sys2Proof.Machine
end

section
/-! The threshold comparator of 40_threshold_comparator.md: the band decode against the bands of its table (R100, R101),
the bits of the sampled mask (R102 to R105), the thirty raw masks (R106), and SAMPLE (R107). -/

namespace Sys2Proof.Machine

/-! ### The band decode answers the first band that holds the code (40_threshold_comparator.md R100) -/

/-- The code lies in band `i` of the table. -/
def BandHolds (v : AdcCode) (thr : List Threshold) (i : Nat) : Prop :=
  i + 1 < thr.length ∧ (thr.getD (i + 1) 0).toInt < (v.toNat : Int) ∧ (v.toNat : Int) ≤ (thr.getD i 0).toInt

theorem not_bandHolds_nil (v : AdcCode) (i : Nat) : ¬ BandHolds v [] i := by simp [BandHolds]

theorem not_bandHolds_singleton (v : AdcCode) (entry : Threshold) (i : Nat) : ¬ BandHolds v [entry] i := by
  simp [BandHolds]

theorem bandHolds_zero_iff (v : AdcCode) (upper lower : Threshold) (rest : List Threshold) :
    BandHolds v (upper :: lower :: rest) 0 ↔ inBand v upper lower = true := by
  simp [BandHolds, inBand_iff]

theorem bandHolds_succ_iff (v : AdcCode) (upper : Threshold) (rest : List Threshold) (i : Nat) :
    BandHolds v (upper :: rest) (i + 1) ↔ BandHolds v rest i := by
  simp [BandHolds]

theorem decodeBand_cons (v : AdcCode) (upper lower : Threshold) (rest : List Threshold) :
    decodeBand v (upper :: lower :: rest) =
      if inBand v upper lower then some 0 else (decodeBand v (lower :: rest)).map (· + 1) := by
  rw [decodeBand, bandFrom_cons, bandFrom_shift, decodeBand]

theorem decodeBand_eq_some_iff (v : AdcCode) (thr : List Threshold) (i : Nat) :
    decodeBand v thr = some i ↔ BandHolds v thr i ∧ ∀ j, j < i → ¬ BandHolds v thr j := by
  induction thr generalizing i with
  | nil => simp [decodeBand, bandFrom, not_bandHolds_nil]
  | cons upper rest ih =>
    cases rest with
    | nil => simp [decodeBand, bandFrom, not_bandHolds_singleton]
    | cons lower rest =>
      rw [decodeBand_cons]
      by_cases first : inBand v upper lower = true
      · cases i with
        | zero => simp [first, bandHolds_zero_iff]
        | succ i =>
          rw [Nat.forall_lt_succ_left, bandHolds_zero_iff]
          simp [first]
      · cases i with
        | zero => simp [first, bandHolds_zero_iff]
        | succ i =>
          simp only [Nat.forall_lt_succ_left, bandHolds_zero_iff, bandHolds_succ_iff]
          simp [first, ih]

theorem decodeBand_eq_none_iff (v : AdcCode) (thr : List Threshold) :
    decodeBand v thr = none ↔ ∀ i, ¬ BandHolds v thr i := by
  simp only [Option.eq_none_iff_forall_ne_some, ne_eq, decodeBand_eq_some_iff]
  constructor
  · intro noFirst i
    induction i using Nat.strong_induction_on with
    | h i earlier => exact fun holds => noFirst i ⟨holds, earlier⟩
  · exact fun noBand i ⟨holds, _⟩ => noBand i holds

/-- Settles O21. -/
theorem decodeBandAnswersTheFirstHoldingBand : Obligations.DecodeBandAnswersTheFirstHoldingBand :=
  fun v thr => ⟨decodeBand_eq_some_iff v thr, decodeBand_eq_none_iff v thr⟩

/-! ### The bands of a strictly decreasing table (40_threshold_comparator.md R101) -/

theorem strictlyDecreasing_iff_isChain (thr : List Threshold) :
    strictlyDecreasing thr = true ↔ thr.IsChain (fun upper lower => lower.toInt < upper.toInt) := by
  induction thr with
  | nil => simp [strictlyDecreasing]
  | cons upper rest ih =>
    cases rest with
    | nil => simp [strictlyDecreasing]
    | cons lower rest => rw [strictlyDecreasing_cons_iff, ih, List.isChain_cons_cons]

/-- A later entry of a strictly decreasing table is no greater. -/
theorem entry_antitone {thr : List Threshold} (decr : strictlyDecreasing thr = true) {i j : Nat} (hij : i ≤ j)
    (hj : j < thr.length) : (thr.getD j 0).toInt ≤ (thr.getD i 0).toInt := by
  have : IsTrans Threshold (fun upper lower => lower.toInt < upper.toInt) := ⟨fun _ _ _ h h' => h'.trans h⟩
  have ordered := ((strictlyDecreasing_iff_isChain thr).mp decr).pairwise
  obtain rfl | hlt := hij.eq_or_lt
  · exact le_rfl
  · rw [List.getD_eq_getElem _ _ hj, List.getD_eq_getElem _ _ (hlt.trans hj)]
    exact (List.pairwise_iff_getElem.mp ordered i j _ hj hlt).le

theorem BandHolds.between {v : AdcCode} {thr : List Threshold} {i : Nat} (decr : strictlyDecreasing thr = true)
    (holds : BandHolds v thr i) :
    (thr.getD (thr.length - 1) 0).toInt < (v.toNat : Int) ∧ (v.toNat : Int) ≤ (thr.getD 0 0).toInt := by
  obtain ⟨hi, below, above⟩ := holds
  have last := entry_antitone decr (i := i + 1) (j := thr.length - 1) (by omega) (by omega)
  have first := entry_antitone decr (Nat.zero_le i) (by omega)
  exact ⟨last.trans_lt below, above.trans first⟩

/-- Where no band holds a code at or below the first entry, the code is at or below every entry, sorted or not. -/
theorem le_entry_of_decodeBand_eq_none {v : AdcCode} {thr : List Threshold} (hdec : decodeBand v thr = none)
    (le_top : (v.toNat : Int) ≤ (thr.getD 0 0).toInt) {i : Nat} (hi : i < thr.length) :
    (v.toNat : Int) ≤ (thr.getD i 0).toInt := by
  induction i with
  | zero => exact le_top
  | succ i ih =>
    have above := ih (by omega)
    by_contra below
    exact (decodeBand_eq_none_iff v thr).mp hdec i ⟨hi, by omega, above⟩

/-- The bands after band `i` lie at or below its lower bound, so none of them holds a code of band `i`. -/
theorem BandHolds.le {v : AdcCode} {thr : List Threshold} {i j : Nat} (decr : strictlyDecreasing thr = true)
    (hi : BandHolds v thr i) (hj : BandHolds v thr j) : j ≤ i := by
  obtain ⟨-, below, -⟩ := hi
  obtain ⟨hj, -, above⟩ := hj
  by_contra hlt
  have := entry_antitone decr (i := i + 1) (j := j) (by omega) (by omega)
  omega

/-- Settles O22: every band lies between the sentinel and the top, and a code at or below the top that no band held
would be at or below the sentinel. -/
theorem bandsPartitionTheTable : Obligations.BandsPartitionTheTable := by
  intro v thr hlen decr holds top sentinel
  refine ⟨fun above => ?_, fun below => ?_, fun above below => ?_,
    fun i j hi hj => le_antisymm (BandHolds.le decr hj hi) (BandHolds.le decr hi hj)⟩
  · exact (decodeBand_eq_none_iff v thr).mpr fun i h => (h.between decr).right.not_gt above
  · exact (decodeBand_eq_none_iff v thr).mpr fun i h => (h.between decr).left.not_ge below
  · cases hdec : decodeBand v thr with
    | none =>
      have le_sentinel := le_entry_of_decodeBand_eq_none hdec below (i := thr.length - 1) (by omega)
      exact absurd above le_sentinel.not_gt
    | some i =>
      obtain ⟨hi, -⟩ := (decodeBand_eq_some_iff v thr i).mp hdec
      exact ⟨i, rfl, hi⟩

/-! ### The bits of the sampled mask (40_threshold_comparator.md R102 to R105) -/

theorem rawMask_getLsbD_power (c : Configuration) (a1 a2 : AdcCode) (pin : PinLevel) :
    (rawMask c a1 a2 pin).getLsbD 6 = true ↔ pin = 0 := by
  rw [rawMask_getLsbD_iff]
  constructor
  · rintro (h1 | ⟨k, h2, h6⟩ | ⟨low, -⟩)
    · have := thr1_band_lt c a1 _ h1
      omega
    · have := thr2_band_lt c a2 _ h2
      omega
    · exact low
  · exact fun low => .inr (.inr ⟨low, rfl⟩)

/-- Settles O23. -/
theorem sampledMaskBits : Obligations.SampledMaskBits :=
  fun _ => ⟨rawMask_getLsbD_channel1 _ _ _ _, rawMask_getLsbD_channel2 _ _ _ _, rawMask_getLsbD_power _ _ _ _,
    rawMask_getLsbD_seven _ _ _ _⟩

/-! ### The thirty raw masks (40_threshold_comparator.md R106) -/

/-- What channel 1 can contribute: nothing, or one of bits 0 to 3. -/
def channel1Masks : List Mask := [0x00, 0x01, 0x02, 0x04, 0x08]

/-- What channel 2 can contribute: nothing, or one of bits 4 and 5. -/
def channel2Masks : List Mask := [0x00, 0x10, 0x20]

/-- What the power pin can contribute. -/
def powerMasks : List Mask := [0x00, 0x40]

/-- The 5 x 3 x 2 combinations of the three inputs' contributions. -/
def possibleMasks : List Mask :=
  channel1Masks.flatMap fun a => channel2Masks.flatMap fun b => powerMasks.map fun p => a ||| b ||| p

theorem mem_possibleMasks_iff (m : Mask) :
    m ∈ possibleMasks ↔ ∃ a ∈ channel1Masks, ∃ b ∈ channel2Masks, ∃ p ∈ powerMasks, a ||| b ||| p = m := by
  simp only [possibleMasks, List.mem_flatMap, List.mem_map]

/-- A channel of `n` bands contributes nothing or the bit of one of them. -/
theorem channelMask_mem (offset n : Nat) (band : Option Nat) (inRange : ∀ k, band = some k → k < n) :
    channelMask offset band ∈ 0x00 :: (List.range n).map fun k => 0x01#8 <<< (offset + k) := by
  cases band with
  | none => exact List.mem_cons_self
  | some k => exact List.mem_cons_of_mem _ (List.mem_map.mpr ⟨k, List.mem_range.mpr (inRange k rfl), rfl⟩)

theorem powerMask_mem (pin : PinLevel) : powerMask pin ∈ powerMasks := by
  unfold powerMask
  split <;> decide

theorem rawMask_mem_possibleMasks (c : Configuration) (a1 a2 : AdcCode) (pin : PinLevel) :
    rawMask c a1 a2 pin ∈ possibleMasks :=
  (mem_possibleMasks_iff _).mpr
    ⟨_, channelMask_mem 0 4 _ (thr1_band_lt c a1), _, channelMask_mem 4 2 _ (thr2_band_lt c a2), _,
      powerMask_mem pin, rfl⟩

/-- Under TCFG a code above the table and one code of each band give every contribution of channel 1. -/
theorem tcfg_channel1_attains :
    ([4095, 3500, 2500, 1500, 500] : List AdcCode).map
      (fun a1 => channelMask 0 (decodeBand a1 Configuration.tcfg.thr1.toList)) = channel1Masks := by decide

theorem tcfg_channel2_attains :
    ([4095, 3000, 1000] : List AdcCode).map
      (fun a2 => channelMask 4 (decodeBand a2 Configuration.tcfg.thr2.toList)) = channel2Masks := by decide

theorem powerMask_attains : ([1, 0] : List PinLevel).map powerMask = powerMasks := by decide

/-- The inputs are independent, so any three contributions occur together. -/
theorem possibleMasks_attained {m : Mask} (hm : m ∈ possibleMasks) :
    ∃ (a1 a2 : AdcCode) (pin : PinLevel), rawMask Configuration.tcfg a1 a2 pin = m := by
  obtain ⟨a, ha, b, hb, p, hp, rfl⟩ := (mem_possibleMasks_iff m).mp hm
  rw [← tcfg_channel1_attains] at ha
  rw [← tcfg_channel2_attains] at hb
  rw [← powerMask_attains] at hp
  obtain ⟨a1, -, rfl⟩ := List.mem_map.mp ha
  obtain ⟨a2, -, rfl⟩ := List.mem_map.mp hb
  obtain ⟨pin, -, rfl⟩ := List.mem_map.mp hp
  exact ⟨a1, a2, pin, rfl⟩

theorem possibleMasks_bits_le_three :
    ∀ m ∈ possibleMasks, ((List.range 8).countP fun k => m.getLsbD k) ≤ 3 := by decide

/-- Settles O24: a raw mask combines one contribution of each input, and TCFG attains every combination. -/
theorem thirtyPossibleRawMasks : Obligations.ThirtyPossibleRawMasks := by
  refine ⟨rfl, by decide, fun c a1 a2 pin => ?_, fun m hm => ?_⟩
  · have hmem := rawMask_mem_possibleMasks c a1 a2 pin
    exact ⟨hmem, rawShape_rawMask c a1 a2 pin, possibleMasks_bits_le_three _ hmem⟩
  · obtain ⟨a1, a2, pin, hraw⟩ := possibleMasks_attained hm
    exact ⟨Configuration.tcfg, a1, a2, pin, by decide, hraw⟩

/-! ### SAMPLE (40_threshold_comparator.md R107) -/

theorem exec_sample_eq (s : State) : exec .sample s = .next (s.respond (zext32 s.sampleRaw)) := rfl

/-- Settles O25: SAMPLE only responds, with the sampled mask zero-extended. -/
theorem sampleAnswersTheRawMask : Obligations.SampleAnswersTheRawMask := by
  intro s
  rw [exec_sample_eq, sampleRaw_eq]
  rfl

end Sys2Proof.Machine
end

section
/-! One UPDATE of 41_debounce_edge.md: its whole effect in its three cases (R121 to R127), and what follows for one
poll: the debounce FSM (R128), the lane-wise edges (R134) and the hold timestamps (R133). -/

namespace Sys2Proof.Machine

/-! ### The three answers of an UPDATE (41_debounce_edge.md R120) -/

/-- The state an UPDATE at `now` answers; `exec_update_eq_updated` says so. -/
def State.updated (s : State) (now : Time) : State :=
  ((s.clearEdges.noteRaw now s.sampleRaw).commitIfDue now s.sampleRaw).respond 0

/-- Nothing but the edge clear and the response (41_debounce_edge.md R121). -/
def State.quieted (s : State) : State := { s with pressed := 0, released := 0, result := 0, ill := 0 }

/-- The debounce timer restarted on the sample (41_debounce_edge.md R122). -/
def State.restarted (s : State) (now : Time) : State := { s.quieted with lraw := s.sampleRaw, ldt := now }

/-- The sample committed (41_debounce_edge.md R124 to R127). A commit has an edge, so the captures depend on the old and
the new mask alone. -/
def State.committed (s : State) (now : Time) : State :=
  { s.quieted with
    pressed := pressedEdges s.sampleRaw s.stable
    released := releasedEdges s.sampleRaw s.stable
    stable := s.sampleRaw
    pstart := if s.stable = 0 then now else s.pstart
    pfinish := if s.sampleRaw = 0 then now else s.pfinish }

theorem exec_update_eq_updated (now : Time) (s : State) : exec (.update now) s = .next (s.updated now) :=
  exec_update_eq now s

theorem eq_updated_of_exec {now : Time} {s t : State} (h : exec (.update now) s = .next t) : t = s.updated now :=
  (Host.Outcome.next.inj h).symm

/-- A commit from idle has a pressed edge (41_debounce_edge.md R125). -/
theorem pressedEdges_ne_zero_of_idle {raw old : Mask} (differs : raw ≠ old) (idle : old = 0) :
    pressedEdges raw old ≠ 0 := by
  rw [pressedEdges, idle, BitVec.ofNat_eq_ofNat, BitVec.not_zero, BitVec.and_allOnes]
  exact fun empty => differs (empty.trans idle.symm)

/-- A commit of the empty mask has a released edge (41_debounce_edge.md R126). -/
theorem releasedEdges_ne_zero_of_empty {raw old : Mask} (differs : raw ≠ old) (empty : raw = 0) :
    releasedEdges raw old ≠ 0 := by
  rw [releasedEdges, empty, BitVec.ofNat_eq_ofNat, BitVec.not_zero, BitVec.and_allOnes]
  exact fun idle => differs (empty.trans idle.symm)

theorem commit_pstart (s : State) (now : Time) {raw : Mask} (differs : raw ≠ s.stable) :
    (s.commit now raw).pstart = if s.stable = 0 then now else s.pstart := by
  have captured := and_iff_right_of_imp (pressedEdges_ne_zero_of_idle differs)
  simp only [State.commit, State.setStable_pstart, State.captureFinish_pstart, State.captureStart_pstart,
    State.setEdges_pressed, State.setEdges_pstart, captured]

theorem commit_pfinish (s : State) (now : Time) {raw : Mask} (differs : raw ≠ s.stable) :
    (s.commit now raw).pfinish = if raw = 0 then now else s.pfinish := by
  have captured := and_iff_right_of_imp (releasedEdges_ne_zero_of_empty differs)
  simp only [State.commit, State.setStable_pfinish, State.captureFinish_pfinish, State.captureStart_pfinish,
    State.captureStart_released, State.setEdges_released, State.setEdges_pfinish, captured]

/-- With the sample equal to LRAW, step 3 writes nothing. -/
theorem noteRaw_of_same {s : State} (now : Time) (same : s.sampleRaw = s.lraw) :
    s.clearEdges.noteRaw now s.sampleRaw = s.clearEdges :=
  if_neg (not_not.mpr same)

theorem updated_of_not_commitsAt {s : State} {now : Time} (noCommit : ¬ s.CommitsAt now) :
    s.updated now = (s.clearEdges.noteRaw now s.sampleRaw).respond 0 := by
  have notDue := (Bool.not_eq_true _).mp ((commitDue_after_noteRaw_iff s now).not.mpr noCommit)
  rw [State.updated, commitIfDue_of_not _ _ _ notDue]

theorem updated_of_differs {s : State} {now : Time} (differs : s.sampleRaw ≠ s.lraw) :
    s.updated now = s.restarted now := by
  have noted : s.clearEdges.noteRaw now s.sampleRaw = { s.clearEdges with ldt := now, lraw := s.sampleRaw } :=
    if_pos differs
  rw [updated_of_not_commitsAt fun ⟨same, _⟩ => differs same, noted]
  rfl

theorem updated_of_same {s : State} {now : Time} (same : s.sampleRaw = s.lraw) (noCommit : ¬ s.CommitsAt now) :
    s.updated now = s.quieted := by
  rw [updated_of_not_commitsAt noCommit, noteRaw_of_same now same]
  rfl

theorem updated_of_commitsAt {s : State} {now : Time} (commits : s.CommitsAt now) :
    s.updated now = s.committed now := by
  have ⟨same, _, differs⟩ := commits
  have due := (commitDue_after_noteRaw_iff s now).mpr commits
  rw [State.updated, commitIfDue_of_due _ _ _ due, noteRaw_of_same now same]
  obtain ⟨hlraw, hldt, -, -, hcfg, hports, hpending⟩ := commit_frame s.clearEdges now s.sampleRaw
  obtain ⟨hstable, hpressed, hreleased⟩ := commit_writes s.clearEdges now s.sampleRaw
  exact State.ext hlraw hstable hpressed hreleased hldt (commit_pstart s.clearEdges now differs)
    (commit_pfinish s.clearEdges now differs) rfl rfl hcfg hports hpending

/-- An UPDATE restarts the timer, commits, or does neither. -/
theorem updated_cases (s : State) (now : Time) :
    (s.sampleRaw ≠ s.lraw ∧ s.updated now = s.restarted now) ∨
    (s.CommitsAt now ∧ s.updated now = s.committed now) ∨
    (s.sampleRaw = s.lraw ∧ ¬ s.CommitsAt now ∧ s.updated now = s.quieted) := by
  by_cases same : s.sampleRaw = s.lraw
  · by_cases commits : s.CommitsAt now
    · exact .inr (.inl ⟨commits, updated_of_commitsAt commits⟩)
    · exact .inr (.inr ⟨same, commits, updated_of_same same commits⟩)
  · exact .inl ⟨same, updated_of_differs same⟩

/-- Settles O26. -/
theorem updateFollowsThePollCycleRules : Obligations.UpdateFollowsThePollCycleRules := by
  intro now s raw
  simp only [exec_update_eq_updated]
  refine ⟨fun differs => ?_, fun same late differs => ?_, fun same noCommit => ?_⟩
  · rw [updated_of_differs differs]
    rfl
  · rw [updated_of_commitsAt ⟨same, late, differs⟩]
    rfl
  · rw [updated_of_same same fun ⟨_, hcommit⟩ => noCommit hcommit]
    rfl

/-! ### The debounce FSM (41_debounce_edge.md R128) -/

theorem fsm_eq_settled_iff (s : State) : s.fsm = .settled ↔ s.lraw = s.stable := by simp [State.fsm]

theorem fsm_eq_pending_iff (s : State) : s.fsm = .pending ↔ s.lraw ≠ s.stable := by simp [State.fsm]

/-- The rows in which the sample is STABLE's: it is no transition to commit. -/
theorem not_commitsAt_of_sample_stable {s : State} {now : Time} (h : s.sampleRaw = s.stable) : ¬ s.CommitsAt now :=
  fun ⟨_, _, differs⟩ => differs h

/-- The rows in which the window has not passed. -/
theorem not_commitsAt_of_within {s : State} {now : Time}
    (within : ¬ s.cfg.debounceDelay.toNat < (now - s.ldt).toNat) : ¬ s.CommitsAt now :=
  fun ⟨_, late, _⟩ => within late

/-- Settles O27: one case of the UPDATE for each row. -/
theorem debounceFsmTransitions : Obligations.DebounceFsmTransitions := by
  refine ⟨fun now s => ⟨s.updated now, exec_update_eq_updated now s, ?_⟩, fun c => rfl⟩
  simp only [fsm_eq_settled_iff, fsm_eq_pending_iff]
  refine ⟨fun settled same => ?_, fun settled differs => ?_, fun _ differs unstable => ?_,
    fun _ differs stable => ?_, fun pending same within => ?_, fun pending same late => ?_⟩
  · rw [updated_of_same same (not_commitsAt_of_sample_stable (same.trans settled))]
    exact ⟨rfl, settled⟩
  · rw [updated_of_differs differs]
    exact ⟨rfl, settled ▸ differs⟩
  · rw [updated_of_differs differs]
    exact ⟨rfl, unstable⟩
  · rw [updated_of_differs differs]
    exact ⟨rfl, stable⟩
  · rw [updated_of_same same (not_commitsAt_of_within within)]
    exact ⟨rfl, pending⟩
  · rw [updated_of_commitsAt ⟨same, late, fun stable => pending (same.symm.trans stable)⟩]
    exact ⟨rfl, same.symm⟩

/-! ### The edges of a commit (41_debounce_edge.md R134) -/

theorem pressedEdges_getLsbD (raw old : Mask) {k : Nat} (hk : k < 8) :
    (pressedEdges raw old).getLsbD k = (raw.getLsbD k && !old.getLsbD k) := by
  simp [pressedEdges, hk]

theorem releasedEdges_getLsbD (raw old : Mask) {k : Nat} (hk : k < 8) :
    (releasedEdges raw old).getLsbD k = (old.getLsbD k && !raw.getLsbD k) := by
  simp [releasedEdges, hk]

/-- Settles O29. -/
theorem edgeBitsAreLaneWise : Obligations.EdgeBitsAreLaneWise := by
  intro now s t h same late differs k hk
  rw [eq_updated_of_exec h, updated_of_commitsAt ⟨same, late, differs⟩]
  exact ⟨pressedEdges_getLsbD _ _ hk, releasedEdges_getLsbD _ _ hk⟩

/-! ### The hold timestamps (41_debounce_edge.md R133) -/

theorem updated_pstart (s : State) (now : Time) :
    (s.updated now).pstart = if s.stable = 0 ∧ (s.updated now).stable ≠ 0 then now else s.pstart := by
  obtain ⟨-, ht⟩ | ⟨⟨-, -, differs⟩, ht⟩ | ⟨-, -, ht⟩ := updated_cases s now <;> rw [ht]
  case inl | inr.inr => exact (if_neg fun ⟨idle, active⟩ => active idle).symm
  have active : s.stable = 0 → s.sampleRaw ≠ 0 := fun idle => idle ▸ differs
  exact if_congr (and_iff_left_of_imp active).symm rfl rfl

theorem updated_pfinish (s : State) (now : Time) :
    (s.updated now).pfinish = if s.stable ≠ 0 ∧ (s.updated now).stable = 0 then now else s.pfinish := by
  obtain ⟨-, ht⟩ | ⟨⟨-, -, differs⟩, ht⟩ | ⟨-, -, ht⟩ := updated_cases s now <;> rw [ht]
  case inl | inr.inr => exact (if_neg fun ⟨active, idle⟩ => active idle).symm
  have active : s.sampleRaw = 0 → s.stable ≠ 0 := fun idle => idle ▸ differs.symm
  exact if_congr (and_iff_right_of_imp active).symm rfl rfl

/-- Settles O34. -/
theorem holdTimestampsMoveOnlyBetweenIdleAndActive : Obligations.HoldTimestampsMoveOnlyBetweenIdleAndActive := by
  intro now s t h
  obtain rfl := eq_updated_of_exec h
  rw [updated_pstart, updated_pfinish]
  refine ⟨fun ⟨active, active'⟩ => ?_, fun ⟨idle, active'⟩ => ?_, fun ⟨active, idle'⟩ => ?_,
    fun ⟨idle, idle'⟩ => ?_⟩
  · exact ⟨if_neg fun ⟨idle, _⟩ => active idle, if_neg fun ⟨_, idle'⟩ => active' idle'⟩
  · exact ⟨if_pos ⟨idle, active'⟩, if_neg fun ⟨active, _⟩ => active idle⟩
  · exact ⟨if_neg fun ⟨idle, _⟩ => active idle, if_pos ⟨active, idle'⟩⟩
  · exact ⟨if_neg fun ⟨_, active'⟩ => active' idle', if_neg fun ⟨active, _⟩ => active idle⟩

end Sys2Proof.Machine
end

section
/-! Runs of UPDATE commands: a run of presented polls as a fold over them, and the properties of 41_debounce_edge.md
section 3 that speak of many polls: commit latency (R130), bounce rejection (R131) and the unchanging input (R132). -/

namespace Sys2Proof.Machine

/-! ### A run of polls -/

/-- The state after one poll: an UPDATE at its NOW that sees its draws. -/
def State.afterPoll (s : State) (q : Time × Ports) : State := (s.withDraws q.2).updated q.1

/-- The state after polls in order; `run_withUpdates` says that the machine's run reaches it. -/
def State.afterPolls (s : State) (polls : List (Time × Ports)) : State := polls.foldl State.afterPoll s

theorem afterPolls_cons (s : State) (q : Time × Ports) (polls : List (Time × Ports)) :
    s.afterPolls (q :: polls) = (s.afterPoll q).afterPolls polls := rfl

theorem afterPolls_append (s : State) (polls later : List (Time × Ports)) :
    s.afterPolls (polls ++ later) = (s.afterPolls polls).afterPolls later := List.foldl_append

theorem afterPoll_cfg (s : State) (q : Time × Ports) : (s.afterPoll q).cfg = s.cfg :=
  exec_cfg (.update q.1) (s.withDraws q.2) _ rfl

theorem afterPolls_cfg (s : State) (polls : List (Time × Ports)) : (s.afterPolls polls).cfg = s.cfg :=
  List.foldlRecOn (motive := fun t => t.cfg = s.cfg) polls State.afterPoll rfl fun t hcfg q _ =>
    (afterPoll_cfg t q).trans hcfg

/-- What is still pending has no part in an UPDATE. -/
theorem updated_withUpdates (s : State) (now : Time) (polls : List (Time × Ports)) :
    (s.withUpdates polls).updated now = (s.updated now).withUpdates polls := by
  obtain ⟨differs, ht⟩ | ⟨commits, ht⟩ | ⟨same, noCommit, ht⟩ := updated_cases s now <;> rw [ht]
  · exact updated_of_differs (s := s.withUpdates polls) differs
  · exact updated_of_commitsAt (s := s.withUpdates polls) commits
  · exact updated_of_same (s := s.withUpdates polls) same noCommit

theorem step_withUpdates_cons (s : State) (q : Time × Ports) (polls : List (Time × Ports))
    (wf : s.cfg.wellFormed = true) :
    step (s.withUpdates (q :: polls)) = .next ((s.afterPoll q).withUpdates polls) := by
  rw [step_command (s.withUpdates (q :: polls)) _ _ _ _ wf rfl, transact_of_command (decode_encode _),
    exec_update_eq_updated]
  exact congrArg Host.Outcome.next (updated_withUpdates (s.withDraws q.2) q.1 polls)

theorem run_succ_of_step {M : Host.Core} {s t : M.State} (h : M.step s = .next t) (n : Nat) :
    M.run (n + 1) s = M.run n t := by
  rw [Host.Core.run, h]

/-- `n` steps take the first `n` polls and leave the others pending. -/
theorem run_withUpdates (s : State) (polls : List (Time × Ports)) (n : Nat) (wf : s.cfg.wellFormed = true)
    (hn : n ≤ polls.length) :
    Sys2Proof.core.run n (s.withUpdates polls) =
      .next ((s.afterPolls (polls.take n)).withUpdates (polls.drop n)) := by
  induction n generalizing s polls with
  | zero => rfl
  | succ n ih =>
    cases polls with
    | nil => simp at hn
    | cons q polls =>
      rw [run_succ_of_step (M := Sys2Proof.core) (step_withUpdates_cons s q polls wf)]
      exact ih (s.afterPoll q) polls ((afterPoll_cfg s q).symm ▸ wf) (Nat.le_of_succ_le_succ hn)

/-! ### What one poll does -/

theorem afterPoll_lraw (s : State) (q : Time × Ports) : (s.afterPoll q).lraw = s.rawOf q.2 := by
  obtain ⟨-, hlraw, -⟩ := exec_update_cases q.1 (s.withDraws q.2) _ rfl
  exact hlraw

theorem afterPoll_ldt (s : State) (q : Time × Ports) :
    (s.afterPoll q).ldt = if s.rawOf q.2 = s.lraw then s.ldt else q.1 := by
  unfold State.afterPoll
  obtain ⟨differs, ht⟩ | ⟨⟨same, -⟩, ht⟩ | ⟨same, -, ht⟩ :=
    updated_cases (s.withDraws q.2) q.1 <;> rw [ht]
  · exact (if_neg differs).symm
  · exact (if_pos same).symm
  · exact (if_pos same).symm

theorem afterPoll_stable_cases (s : State) (q : Time × Ports) :
    (s.afterPoll q).stable = s.stable ∨ (s.afterPoll q).stable = s.rawOf q.2 := by
  obtain ⟨-, -, ⟨-, hstable, -⟩ | ⟨-, hstable, -⟩⟩ := exec_update_cases q.1 (s.withDraws q.2) _ rfl
  · exact .inr hstable
  · exact .inl hstable

/-- The mask that draws give depends on the configuration alone. -/
theorem rawOf_congr {s t : State} (hcfg : t.cfg = s.cfg) (p : Ports) : t.rawOf p = s.rawOf p := by
  rw [State.rawOf, State.rawOf, hcfg]

/-! ### Polls that do not commit -/

/-- STABLE and the hold timestamps of `t` are those of `s`. -/
structure SameHold (s t : State) : Prop where
  cfg : t.cfg = s.cfg
  stable : t.stable = s.stable
  pstart : t.pstart = s.pstart
  pfinish : t.pfinish = s.pfinish

/-- And `t` shows no edge. -/
structure SameHoldNoEdge (s t : State) : Prop extends SameHold s t where
  pressed : t.pressed = 0
  released : t.released = 0

theorem SameHold.refl (s : State) : SameHold s s := ⟨rfl, rfl, rfl, rfl⟩

theorem SameHold.trans {s t u : State} (first : SameHold s t) (second : SameHold t u) : SameHold s u :=
  ⟨second.cfg.trans first.cfg, second.stable.trans first.stable, second.pstart.trans first.pstart,
    second.pfinish.trans first.pfinish⟩

theorem SameHold.trans_noEdge {s t u : State} (first : SameHold s t) (second : SameHoldNoEdge t u) :
    SameHoldNoEdge s u :=
  ⟨first.trans second.toSameHold, second.pressed, second.released⟩

theorem sameHoldNoEdge_afterPoll {s : State} {q : Time × Ports} (noCommit : ¬ (s.withDraws q.2).CommitsAt q.1) :
    SameHoldNoEdge s (s.afterPoll q) := by
  unfold State.afterPoll
  rw [updated_of_not_commitsAt noCommit]
  constructor
  case toSameHold => constructor <;> simp [State.withDraws]
  all_goals simp

/-! ### Commit latency (41_debounce_edge.md R130) -/

/-- The debouncer of `t` waits as that of `s` does: for the same mask, since the same NOW. -/
structure SameWait (s t : State) : Prop extends SameHold s t where
  lraw : t.lraw = s.lraw
  ldt : t.ldt = s.ldt

theorem SameWait.afterPoll {s t : State} (same : SameWait s t) {q : Time × Ports} (steady : s.rawOf q.2 = s.lraw)
    (within : (q.1 - s.ldt).toNat ≤ s.cfg.debounceDelay.toNat) : SameWait s (t.afterPoll q) := by
  have sample : t.rawOf q.2 = t.lraw := by rw [rawOf_congr same.cfg, steady, same.lraw]
  have noCommit : ¬ (t.withDraws q.2).CommitsAt q.1 := by
    refine not_commitsAt_of_within (Nat.not_lt.mpr ?_)
    change (q.1 - t.ldt).toNat ≤ t.cfg.debounceDelay.toNat
    rwa [same.ldt, same.cfg]
  refine ⟨same.toSameHold.trans (sameHoldNoEdge_afterPoll noCommit).toSameHold, ?_, ?_⟩
  · rw [afterPoll_lraw, sample, same.lraw]
  · rw [afterPoll_ldt, if_pos sample, same.ldt]

theorem sameWait_afterPolls {s : State} {polls : List (Time × Ports)}
    (h : ∀ q ∈ polls, s.rawOf q.2 = s.lraw ∧ (q.1 - s.ldt).toNat ≤ s.cfg.debounceDelay.toNat) :
    SameWait s (s.afterPolls polls) := by
  refine List.foldlRecOn polls State.afterPoll ⟨SameHold.refl s, rfl, rfl⟩ fun t same q hq => ?_
  obtain ⟨steady, within⟩ := h q hq
  exact same.afterPoll steady within

theorem SameWait.withDraws {s t : State} (same : SameWait s t) (p : Ports) : SameWait s (t.withDraws p) :=
  ⟨⟨same.cfg, same.stable, same.pstart, same.pfinish⟩, same.lraw, same.ldt⟩

theorem SameWait.commitsAt {s t : State} {now : Time} (same : SameWait s t) (sample : t.sampleRaw = s.lraw)
    (late : s.cfg.debounceDelay.toNat < (now - s.ldt).toNat) (pending : s.lraw ≠ s.stable) : t.CommitsAt now := by
  rw [State.CommitsAt, sample, same.lraw, same.cfg, same.ldt, same.stable]
  exact ⟨rfl, late, pending⟩

theorem SameWait.committed {s t : State} (same : SameWait s t) (sample : t.sampleRaw = s.lraw) (now : Time) :
    (t.committed now).stable = s.lraw ∧ (t.committed now).pressed = pressedEdges s.lraw s.stable ∧
    (t.committed now).released = releasedEdges s.lraw s.stable ∧ (t.committed now).ldt = s.ldt ∧
    (t.committed now).pstart = (if s.stable = 0 then now else s.pstart) ∧
    (t.committed now).pfinish = (if s.lraw = 0 then now else s.pfinish) := by
  simp only [State.committed, State.quieted, sample, same.stable, same.ldt, same.pstart, same.pfinish, and_self]

/-- Settles O30: the polls within the window leave the debouncer waiting as it was, and there the next poll meets the
commit condition. -/
theorem commitLatencyOfASteadyInput : Obligations.CommitLatencyOfASteadyInput := by
  intro s polls now p wf pending steady sample late
  have same := sameWait_afterPolls steady
  refine ⟨⟨_, run_withUpdates s _ _ wf (by simp), ?_⟩, ⟨_, run_withUpdates s _ _ wf (by simp), ?_⟩⟩
  · rw [List.take_left]
    exact ⟨same.stable, same.lraw, same.ldt, same.pstart, same.pfinish⟩
  · have sample' : ((s.afterPolls polls).withDraws p).sampleRaw = s.lraw := (rawOf_congr same.cfg p).trans sample
    have commits := (same.withDraws p).commitsAt sample' late pending
    have last : s.afterPolls (polls ++ [(now, p)]) = ((s.afterPolls polls).withDraws p).committed now := by
      rw [afterPolls_append]
      exact updated_of_commitsAt commits
    rw [List.take_of_length_le (by simp), last]
    exact (same.withDraws p).committed sample' now

/-! ### Bounce rejection (41_debounce_edge.md R131) -/

/-- An instant between `t0` and `now` is no further from `now` than `t0` is. -/
theorem toNat_sub_le_of_between {t0 mid now : Time} (between : (mid - t0).toNat ≤ (now - t0).toNat) :
    (now - mid).toNat ≤ (now - t0).toNat := by
  bv_omega

/-- Nothing is committed while LDT lies between `t0` and each poll and each poll within the window from `t0`, whatever
the polls sample: LDT stays, or moves to a poll, which lies before the polls to come. -/
theorem sameHoldNoEdge_afterPolls_within {base s : State} {t0 : Time} {polls : List (Time × Ports)}
    (same : SameHoldNoEdge base s) (started : ∀ q ∈ polls, (s.ldt - t0).toNat ≤ (q.1 - t0).toNat)
    (within : ∀ q ∈ polls, (q.1 - t0).toNat ≤ base.cfg.debounceDelay.toNat)
    (mono : polls.Pairwise fun q r => (q.1 - t0).toNat ≤ (r.1 - t0).toNat) :
    SameHoldNoEdge base (s.afterPolls polls) := by
  induction polls generalizing s with
  | nil => exact same
  | cons q polls ih =>
    obtain ⟨qstarted, started⟩ := List.forall_mem_cons.mp started
    obtain ⟨qwithin, within⟩ := List.forall_mem_cons.mp within
    obtain ⟨qfirst, mono⟩ := List.pairwise_cons.mp mono
    have noCommit : ¬ (s.withDraws q.2).CommitsAt q.1 := by
      refine not_commitsAt_of_within (Nat.not_lt.mpr ?_)
      change (q.1 - s.ldt).toNat ≤ s.cfg.debounceDelay.toNat
      rw [same.cfg]
      exact (toNat_sub_le_of_between qstarted).trans qwithin
    refine ih (same.toSameHold.trans_noEdge (sameHoldNoEdge_afterPoll noCommit)) (fun r hr => ?_) within mono
    rw [afterPoll_ldt]
    split
    · exact started r hr
    · exact qfirst r hr

/-- A poll that samples STABLE settles the FSM and commits nothing. -/
theorem afterPoll_of_sample_stable {s : State} {q : Time × Ports} (sample : s.rawOf q.2 = s.stable) :
    SameHoldNoEdge s (s.afterPoll q) ∧ (s.afterPoll q).fsm = .settled := by
  have kept := sameHoldNoEdge_afterPoll (not_commitsAt_of_sample_stable (s := s.withDraws q.2) (now := q.1) sample)
  refine ⟨kept, (fsm_eq_settled_iff _).mpr ?_⟩
  rw [afterPoll_lraw, sample, kept.stable]

/-- Settles O31: the first poll restarts the timer at `t0`, the bounces stay within the window, and the last poll
samples STABLE. -/
theorem bounceWithinTheWindowNeverCommits : Obligations.BounceWithinTheWindowNeverCommits := by
  intro s t0 t1 p0 p1 bounce wf settled changed returned within mono n hn
  have differs : s.rawOf p0 ≠ s.lraw := settled ▸ changed
  have first : SameHoldNoEdge s (s.afterPoll (t0, p0)) := sameHoldNoEdge_afterPoll fun ⟨same, _⟩ => differs same
  have ldt0 : (s.afterPoll (t0, p0)).ldt = t0 := by rw [afterPoll_ldt, if_neg differs]
  have bounced (m : Nat) : SameHoldNoEdge s ((s.afterPoll (t0, p0)).afterPolls (bounce.take m)) := by
    refine sameHoldNoEdge_afterPolls_within first (fun q _ => ?_)
      (fun q hq => within q (List.mem_of_mem_take hq)) (mono.sublist (List.take_sublist m bounce))
    simp [ldt0]
  refine ⟨_, run_withUpdates s _ n wf (by simpa using hn), ?_⟩
  cases n with
  | zero => exact ⟨rfl, rfl, rfl, fun h => absurd h (lt_irrefl 0), fun h => by omega⟩
  | succ m =>
    rw [List.cons_append, List.take_succ_cons, afterPolls_cons]
    by_cases hm : m ≤ bounce.length
    · rw [List.take_append_of_le_length hm]
      have kept := bounced m
      exact ⟨kept.stable, kept.pstart, kept.pfinish, fun _ => ⟨kept.pressed, kept.released⟩, fun h => by omega⟩
    · rw [List.take_of_length_le (by simp; omega), afterPolls_append]
      have before := bounced bounce.length
      rw [List.take_length] at before
      have sample := (rawOf_congr before.cfg p1).trans (returned.trans before.stable.symm)
      obtain ⟨last, settled'⟩ := afterPoll_of_sample_stable (q := (t1, p1)) sample
      have kept := before.toSameHold.trans_noEdge last
      exact ⟨kept.stable, kept.pstart, kept.pfinish, fun _ => ⟨kept.pressed, kept.released⟩, fun _ => settled'⟩

/-! ### The unchanging input (41_debounce_edge.md R132) -/

/-- `t` follows `s` after polls of the one mask `r`: the timer runs on `r` since `ldt`, and STABLE is the old one or
`r`. -/
structure SteadyOn (s : State) (r : Mask) (ldt : Time) (t : State) : Prop where
  cfg : t.cfg = s.cfg
  lraw : t.lraw = r
  ldt : t.ldt = ldt
  stable : t.stable = s.stable ∨ t.stable = r

/-- The first poll of `r` alone can move LDT. -/
theorem steadyOn_first {s : State} {r : Mask} {q : Time × Ports} (sample : s.rawOf q.2 = r) :
    SteadyOn s r (if r = s.lraw then s.ldt else q.1) (s.afterPoll q) := by
  refine ⟨afterPoll_cfg s q, (afterPoll_lraw s q).trans sample, ?_, sample ▸ afterPoll_stable_cases s q⟩
  rw [afterPoll_ldt, sample]

theorem SteadyOn.afterPoll {s t : State} {r : Mask} {ldt : Time} (steady : SteadyOn s r ldt t) {q : Time × Ports}
    (sample : s.rawOf q.2 = r) : SteadyOn s r ldt (t.afterPoll q) := by
  have sample' : t.rawOf q.2 = r := (rawOf_congr steady.cfg q.2).trans sample
  refine ⟨(afterPoll_cfg t q).trans steady.cfg, (afterPoll_lraw t q).trans sample', ?_, ?_⟩
  · rw [afterPoll_ldt, if_pos (sample'.trans steady.lraw.symm), steady.ldt]
  · obtain hstable | hstable := afterPoll_stable_cases t q
    · exact hstable ▸ steady.stable
    · exact .inr (hstable.trans sample')

theorem steadyOn_afterPolls {s : State} {r : Mask} {q : Time × Ports} {polls : List (Time × Ports)}
    (samples : ∀ x ∈ q :: polls, s.rawOf x.2 = r) :
    SteadyOn s r (if r = s.lraw then s.ldt else q.1) (s.afterPolls (q :: polls)) := by
  obtain ⟨sample, samples⟩ := List.forall_mem_cons.mp samples
  exact List.foldlRecOn polls State.afterPoll (steadyOn_first sample) fun t steady x hx =>
    steady.afterPoll (samples x hx)

/-- Polls that sample STABLE commit nothing. -/
theorem sameHoldNoEdge_afterPolls_of_sample_stable {s : State} {polls : List (Time × Ports)} (nonempty : polls ≠ [])
    (samples : ∀ x ∈ polls, s.rawOf x.2 = s.stable) : SameHoldNoEdge s (s.afterPolls polls) := by
  obtain ⟨q, polls, rfl⟩ := List.exists_cons_of_ne_nil nonempty
  obtain ⟨sample, samples⟩ := List.forall_mem_cons.mp samples
  refine List.foldlRecOn polls State.afterPoll (afterPoll_of_sample_stable sample).left fun t kept x hx => ?_
  have sample' : t.rawOf x.2 = t.stable := by rw [rawOf_congr kept.cfg, samples x hx, kept.stable]
  exact kept.toSameHold.trans_noEdge (afterPoll_of_sample_stable sample').left

/-- Once STABLE is `r`, the polls of `r` that follow commit nothing. -/
theorem sameHoldNoEdge_afterPolls_take {s : State} {r : Mask} {polls : List (Time × Ports)} {k n : Nat}
    (samples : ∀ x ∈ polls, s.rawOf x.2 = r) (hstable : (s.afterPolls (polls.take k)).stable = r) (hkn : k < n)
    (hn : n ≤ polls.length) :
    SameHoldNoEdge (s.afterPolls (polls.take k)) (s.afterPolls (polls.take n)) := by
  obtain ⟨j, rfl⟩ := Nat.exists_eq_add_of_lt hkn
  rw [Nat.add_assoc, List.take_add, afterPolls_append]
  refine sameHoldNoEdge_afterPolls_of_sample_stable (List.ne_nil_of_length_pos ?_) fun x hx => ?_
  · rw [List.length_take, List.length_drop]
    omega
  · rw [rawOf_congr (afterPolls_cfg s _), hstable]
    exact samples x (List.mem_of_mem_drop (List.mem_of_mem_take hx))

/-- Settles O32. -/
theorem unchangingInputCommitsAtMostOnce : Obligations.UnchangingInputCommitsAtMostOnce := by
  intro s r now p polls wf samples n hn hlen
  refine ⟨_, run_withUpdates s _ n wf hlen, ?_⟩
  have steady : SteadyOn s r (if r = s.lraw then s.ldt else now) (s.afterPolls (((now, p) :: polls).take n)) := by
    obtain ⟨m, rfl⟩ := Nat.exists_eq_succ_of_ne_zero hn.ne'
    exact steadyOn_afterPolls fun x hx => samples x (List.mem_of_mem_take (i := m + 1) hx)
  refine ⟨steady.lraw, steady.ldt, steady.stable, fun k _ hkn u hu hstable => ?_⟩
  obtain rfl := Host.Outcome.next.inj ((run_withUpdates s ((now, p) :: polls) k wf (hkn.le.trans hlen)).symm.trans hu)
  have kept := sameHoldNoEdge_afterPolls_take samples hstable hkn hlen
  exact ⟨kept.stable.trans hstable, kept.pressed, kept.released, kept.pstart, kept.pfinish⟩

end Sys2Proof.Machine
end

section
/-! The queries of 42_queries_hold_timer.md: the bit test (R150), what each query answers (R151 to R156, R158), that a
query writes the response only (R159), and the hold timer before the first hold (R157). -/

namespace Sys2Proof.Machine

/-! ### The bit test and predicate results (42_queries_hold_timer.md R150) -/

theorem bitTest_iff (m : Mask) (idx : ButtonIdx) :
    bitTest m idx = true ↔ idx.toNat ≤ 7 ∧ m.getLsbD idx.toNat = true := by
  simp [bitTest]

theorem boolResult_of_iff {b : Bool} {p : Prop} [Decidable p] (h : b = true ↔ p) :
    boolResult b = if p then 1 else 0 :=
  if_congr h rfl rfl

theorem boolResult_bitTest (m : Mask) (idx : ButtonIdx) :
    boolResult (bitTest m idx) = if idx.toNat ≤ 7 ∧ m.getLsbD idx.toNat = true then 1 else 0 :=
  boolResult_of_iff (bitTest_iff m idx)

theorem boolResult_ne_zero (m : Mask) : boolResult (decide (m ≠ 0)) = if m = 0 then 0 else 1 :=
  (boolResult_of_iff decide_eq_true_iff).trans (ite_not ..)

/-- Of the indices from 7 up only 7 names a bit of the mask. -/
theorem bitTest_eq_false_of_seven_le {m : Mask} {idx : ButtonIdx} (bit7 : m.getLsbD 7 = false)
    (hidx : 7 ≤ idx.toNat) : bitTest m idx = false := by
  rw [← Bool.not_eq_true, bitTest_iff]
  rintro ⟨hle, hbit⟩
  rw [Nat.le_antisymm hle hidx, bit7] at hbit
  exact Bool.false_ne_true hbit

/-- Settles O37: bit 7 of each mask is 0 by the register invariants. -/
theorem bitTestIsZeroPastTheMask : Obligations.BitTestIsZeroPastTheMask := by
  refine ⟨fun _ _ => rfl, fun s idx inv hidx => ?_⟩
  have ⟨stable7, _⟩ := inv.stable_shape
  have ⟨lraw7, _⟩ := inv.lraw_shape
  exact ⟨bitTest_eq_false_of_seven_le stable7 hidx, bitTest_eq_false_of_seven_le inv.pressed_bit7 hidx,
    bitTest_eq_false_of_seven_le inv.released_bit7 hidx, bitTest_eq_false_of_seven_le lraw7 hidx⟩

/-! ### The hold timer's answer (42_queries_hold_timer.md R156) -/

theorem heldTime_of_active {s : State} (active : s.stable ≠ 0) (now : Time) :
    s.heldTime now = sub32 now s.pstart := if_pos active

theorem heldTime_of_idle {s : State} (idle : s.stable = 0) (now : Time) :
    s.heldTime now = sub32 s.pfinish s.pstart := if_neg (not_not.mpr idle)

theorem sub32_eq_ofNat (a b : Time) : sub32 a b = BitVec.ofNat 32 (a.toNat + 4294967296 - b.toNat) := by
  have hb := b.isLt
  rw [sub32, BitVec.sub_def]
  congr 1
  omega

/-! ### What a query answers -/

/-- The value a query responds with (42_queries_hold_timer.md R151 to R156, R158), 0 for a command that is no query;
`exec_query_eq` says so of the queries. -/
def State.queryResult (s : State) : Instr → ResultWord
  | .isPressed idx => boolResult (bitTest s.stable idx)
  | .wasPressed idx => boolResult (bitTest s.pressed idx)
  | .wasReleased idx => boolResult (bitTest s.released idx)
  | .wasAnyPressed => boolResult (decide (s.pressed ≠ 0))
  | .wasAnyReleased => boolResult (decide (s.released ≠ 0))
  | .getHeldTime now => s.heldTime now
  | .getButtonName idx => labelId idx
  | .sample | .update _ | .pctFromMv _ | .readMv | .readPct => 0

/-- A query only responds with its value. -/
theorem exec_query_eq {i : Instr} (query : isQuery i = true) {s : State} {v : ResultWord}
    (answer : s.queryResult i = v) : exec i s = .next { s with result := v, ill := 0 } := by
  subst answer
  cases i with
  | isPressed | wasPressed | wasReleased | wasAnyPressed | wasAnyReleased | getHeldTime | getButtonName => rfl
  | sample | update | pctFromMv | readMv | readPct => exact absurd query Bool.false_ne_true

/-- A query's value comes from the registers of the data model alone. -/
theorem queryResult_congr (i : Instr) {s t : State} (same : SameButtonState s t) :
    t.queryResult i = s.queryResult i := by
  obtain ⟨-, hstable, hpressed, hreleased, -, hpstart, hpfinish⟩ := same
  cases i with
  | isPressed => rw [State.queryResult, State.queryResult, hstable]
  | wasPressed | wasAnyPressed => rw [State.queryResult, State.queryResult, hpressed]
  | wasReleased | wasAnyReleased => rw [State.queryResult, State.queryResult, hreleased]
  | getHeldTime => rw [State.queryResult, State.queryResult, State.heldTime, State.heldTime, hstable, hpstart, hpfinish]
  | getButtonName | sample | update | pctFromMv | readMv | readPct => rfl

/-- Settles O38. -/
theorem isPressedAnswersTheStableBit : Obligations.IsPressedAnswersTheStableBit :=
  fun idx s => exec_query_eq rfl (boolResult_bitTest s.stable idx)

/-- Settles O39. -/
theorem wasPressedAnswersThePressedBit : Obligations.WasPressedAnswersThePressedBit :=
  fun idx s => exec_query_eq rfl (boolResult_bitTest s.pressed idx)

/-- Settles O40. -/
theorem wasReleasedAnswersTheReleasedBit : Obligations.WasReleasedAnswersTheReleasedBit :=
  fun idx s => exec_query_eq rfl (boolResult_bitTest s.released idx)

/-- Settles O41. -/
theorem anyEdgeQueriesTestTheWholeMask : Obligations.AnyEdgeQueriesTestTheWholeMask :=
  fun s => ⟨exec_query_eq rfl (boolResult_ne_zero s.pressed), exec_query_eq rfl (boolResult_ne_zero s.released)⟩

/-- Settles O42: the modular difference on natural numbers, in each of the two cases. -/
theorem getHeldTimeAnswersTheHold : Obligations.GetHeldTimeAnswersTheHold := fun now s =>
  ⟨fun active => exec_query_eq rfl ((heldTime_of_active active now).trans (sub32_eq_ofNat now s.pstart)),
    fun idle => exec_query_eq rfl ((heldTime_of_idle idle now).trans (sub32_eq_ofNat s.pfinish s.pstart))⟩

theorem labelId_eq_ofNat_min (idx : ButtonIdx) : labelId idx = BitVec.ofNat 32 (min idx.toNat 7) := by
  unfold labelId
  split
  case isTrue named =>
    have hmin : min idx.toNat 7 = idx.toNat := Nat.min_eq_left (by omega)
    exact (hmin ▸ BitVec.ofNat_toNat 32 idx).symm
  case isFalse unnamed =>
    have hmin : min idx.toNat 7 = 7 := Nat.min_eq_right (by omega)
    exact congrArg (BitVec.ofNat 32) hmin.symm

/-- Settles O45. -/
theorem getButtonNameAnswersTheLabel : Obligations.GetButtonNameAnswersTheLabel :=
  ⟨fun idx _ => exec_query_eq rfl (labelId_eq_ofNat_min idx), rfl⟩

/-- Settles O46: another draw of the ports and an earlier query's response both leave the registers of the data model,
and with them every query's value. -/
theorem queriesWriteOnlyTheResponse : Obligations.QueriesWriteOnlyTheResponse := by
  intro i query s
  refine ⟨s.respond (s.queryResult i), exec_query_eq query rfl, rfl, fun p => ?_, fun j laterQuery => ?_⟩
  · have redrawn : SameButtonState s { s with ports := p } := SameButtonState.refl s
    exact exec_query_eq query (queryResult_congr i redrawn)
  · have later := queryResult_congr j (sameButtonState_respond s (s.queryResult i))
    exact (exec_query_eq laterQuery later).trans (exec_query_eq (s := s) laterQuery rfl).symm

/-! ### A run under a condition on its states -/

theorem run_succ_next_iff {M : Host.Core} {n : Nat} {s t : M.State} :
    M.run (n + 1) s = .next t ↔ ∃ u, M.step s = .next u ∧ M.run n u = .next t := by
  rw [Host.Core.run]
  cases M.step s <;> simp

/-- What every step into a state with `Q` keeps, a run keeps as long as all its states have `Q`. -/
theorem run_keeps_while {M : Host.Core} {P Q : M.State → Prop}
    (keeps : ∀ s t, P s → M.step s = .next t → Q t → P t) {n : Nat} {s t : M.State} (start : P s)
    (always : ∀ m, m ≤ n → ∀ u, M.run m s = .next u → Q u) (h : M.run n s = .next t) : P t := by
  induction n generalizing s with
  | zero =>
    obtain rfl := Host.Outcome.next.inj h
    exact start
  | succ n ih =>
    obtain ⟨u, hstep, hrun⟩ := run_succ_next_iff.mp h
    have first : Q u := always 1 (by omega) u (run_succ_next_iff.mpr ⟨u, hstep, rfl⟩)
    exact ih (keeps s u start hstep first)
      (fun m hm v hv => always (m + 1) (by omega) v (run_succ_next_iff.mpr ⟨u, hstep, hv⟩)) hrun

/-! ### Before the first hold (42_queries_hold_timer.md R157) -/

/-- Nothing is held, and nothing has been held since the last reset. -/
structure NeverHeld (s : State) : Prop where
  stable : s.stable = 0
  pstart : s.pstart = 0
  pfinish : s.pfinish = 0

theorem neverHeld_resetWith (c : Configuration) (evs : List Event) :
    NeverHeld { State.resetWith c with pending := evs } := ⟨rfl, rfl, rfl⟩

theorem neverHeld_applyReset (s : State) : NeverHeld s.applyReset := ⟨rfl, rfl, rfl⟩

theorem NeverHeld.of_sameButtonState {s t : State} (never : NeverHeld s) (same : SameButtonState s t) :
    NeverHeld t := by
  obtain ⟨-, hstable, -, -, -, hpstart, hpfinish⟩ := same
  exact ⟨hstable.trans never.stable, hpstart.trans never.pstart, hpfinish.trans never.pfinish⟩

/-- An UPDATE from idle to idle moves no hold timestamp (41_debounce_edge.md R133). -/
theorem NeverHeld.of_update {s t : State} {now : Time} (never : NeverHeld s) (h : exec (.update now) s = .next t)
    (idle : t.stable = 0) : NeverHeld t := by
  obtain ⟨-, -, -, kept⟩ := holdTimestampsMoveOnlyBetweenIdleAndActive now s t h
  obtain ⟨hpstart, hpfinish⟩ := kept ⟨never.stable, idle⟩
  exact ⟨idle, hpstart.trans never.pstart, hpfinish.trans never.pfinish⟩

theorem NeverHeld.of_transact {s t : State} {cmd : CmdWord} {opnd : Operand} (never : NeverHeld s)
    (h : transact cmd opnd s = .next t) (idle : t.stable = 0) : NeverHeld t := by
  by_cases hd : ∃ now, decode cmd opnd = .command (.update now)
  · obtain ⟨now, hnow⟩ := hd
    exact never.of_update ((transact_of_command hnow s).symm.trans h) idle
  · exact never.of_sameButtonState (transact_keeps_buttonState cmd opnd s t h (not_exists.mp hd))

theorem NeverHeld.of_step {s t : State} (never : NeverHeld s) (h : step s = .next t) (idle : t.stable = 0) :
    NeverHeld t := by
  obtain ⟨-, ⟨-, rfl⟩ | ⟨later, -, rfl⟩ | ⟨cmd, opnd, draws, later, -, hrun⟩⟩ := step_cases s t h
  · exact never
  · exact neverHeld_applyReset _
  · have presented := (sameButtonState_present_iff s _ draws later).mp (SameButtonState.refl _)
    exact (never.of_sameButtonState presented).of_transact hrun idle

theorem NeverHeld.heldTime {s : State} (never : NeverHeld s) (now : Time) : s.heldTime now = 0 := by
  rw [heldTime_of_idle never.stable, never.pfinish, never.pstart, sub32_self]

/-- Settles O44: the run from reset never leaves `NeverHeld`. -/
theorem earlyHeldTimeIsZero : Obligations.EarlyHeldTimeIsZero := by
  intro c evs n t now _ idle h
  have never : NeverHeld t := run_keeps_while (M := Sys2Proof.core) (fun _ _ never => never.of_step)
    (neverHeld_resetWith c evs) idle h
  exact exec_query_eq rfl (never.heldTime now)

end Sys2Proof.Machine
end

section
/-! The polynomial scaler of 43_polynomial_scaler.md: the integer percentage against the exact rational one (R180, R181),
the absence of rounding ties (R180), the shape of the cubic, which gives its bound (R182) and the ranges of the percentage
(R187), divider scaling (R184), and the three gauge commands (R183, R185, R186). -/

namespace Sys2Proof.Machine

/-! ### The integer form and the rational cubic (43_polynomial_scaler.md R180, R181) -/

theorem pctInt_eq (mv : Int) :
    pctInt mv = max 0 (min 100 ((pctPolynomial mv + 5000000000000) / 10000000000000)) := by
  rw [pctInt, clampInt_eq _ _ _ (by decide), floorDiv_eq_ediv _ (by decide)]

/-- `P = p * 10^13`: each coefficient has four decimals and v = mv / 1000. -/
theorem pctCubic_eq_polynomial_div (mv : Int) :
    pctCubic ((mv : ℚ) / 1000) = (pctPolynomial mv : ℚ) / 10000000000000 := by
  rw [pctCubic, pctPolynomial]
  push_cast
  ring

theorem roundHalfAway_eq_floor (c : ℚ) : roundHalfAway c = ⌊c + 1 / 2⌋ := by
  have below := Int.floor_le c
  have above := Int.lt_floor_add_one c
  rw [roundHalfAway, eq_comm, Int.floor_eq_iff]
  split
  · constructor <;> linarith
  · push_cast
    constructor <;> linarith

theorem roundHalfAway_mono : Monotone roundHalfAway := fun a b hab => by
  rw [roundHalfAway_eq_floor, roundHalfAway_eq_floor]
  exact Int.floor_mono (by linarith)

theorem roundHalfAway_intCast (k : Int) : roundHalfAway k = k := by
  simp [roundHalfAway]

theorem roundHalfAway_pctCubic (mv : Int) :
    roundHalfAway (pctCubic ((mv : ℚ) / 1000)) = (pctPolynomial mv + 5000000000000) / 10000000000000 := by
  have shifted : pctCubic ((mv : ℚ) / 1000) + 1 / 2 =
      ((pctPolynomial mv + 5000000000000 : Int) : ℚ) / ((10000000000000 : Nat) : ℚ) := by
    rw [pctCubic_eq_polynomial_div]
    push_cast
    ring
  rw [roundHalfAway_eq_floor, shifted, Rat.floor_intCast_div_natCast]
  rfl

/-- Clamping before rounding is clamping after it, because rounding is monotone and keeps 0 and 100. -/
theorem pctInt_eq_pctRational (mv : Nat) : pctInt mv = pctRational mv := by
  have at0 : roundHalfAway 0 = 0 := roundHalfAway_intCast 0
  have at100 : roundHalfAway 100 = 100 := roundHalfAway_intCast 100
  rw [pctRational, roundHalfAway_mono.map_max, roundHalfAway_mono.map_min, at0, at100, ← Int.cast_natCast (R := ℚ),
    roundHalfAway_pctCubic, pctInt_eq, min_comm]

/-- Settles O47. -/
theorem integerPctEqualsRationalPct : Obligations.IntegerPctEqualsRationalPct :=
  fun mv => ⟨pctInt_eq_pctRational mv.toNat, pctInt_eq mv.toNat⟩

/-! ### No rounding tie (43_polynomial_scaler.md R180) -/

theorem pctPolynomial_eq_of_tie {mv k : Int} (tie : pctCubic ((mv : ℚ) / 1000) = (k : ℚ) + 1 / 2) :
    pctPolynomial mv = 10000000000000 * k + 5000000000000 := by
  rw [pctCubic_eq_polynomial_div, div_eq_iff (by norm_num)] at tie
  have scaled : (pctPolynomial mv : ℚ) = 10000000000000 * k + 5000000000000 := by
    rw [tie]
    ring
  exact_mod_cast scaled

/-- At a tie the constant and the lower terms have more factors 5, and then 2, than the leading coefficient, so the prime
divides `mv`; after the division the same holds once more. -/
theorem exists_hundred_mul_of_tie {mv k : Int} (tie : pctPolynomial mv = 10000000000000 * k + 5000000000000) :
    ∃ n, mv = 100 * n := by
  rw [pctPolynomial] at tie
  obtain ⟨a, rfl⟩ := Int.Prime.dvd_pow' Nat.prime_five (k := 3) (n := mv) (by omega)
  obtain ⟨b, rfl⟩ := Int.Prime.dvd_pow' Nat.prime_five (k := 3) (n := a) (by push_cast at tie; ring_nf at tie; omega)
  obtain ⟨c, rfl⟩ := Int.Prime.dvd_pow' Nat.prime_two (k := 3) (n := b) (by push_cast at tie; ring_nf at tie; omega)
  obtain ⟨n, rfl⟩ := Int.Prime.dvd_pow' Nat.prime_two (k := 3) (n := c) (by push_cast at tie; ring_nf at tie; omega)
  exact ⟨n, by push_cast; ring⟩

/-- `(P - 5 * 10^12) / 10^7` at `mv = 100 * n` (`pctPolynomial_hundred`), over any ring so that it reduces modulo 16
and 125. -/
def tieCubic {R : Type} [CommRing R] (n : R) : R :=
  -144939 * n ^ 3 + 16558629 * n ^ 2 - 615885200 * n + 7500820200

theorem pctPolynomial_hundred (n : Int) : pctPolynomial (100 * n) = 10000000 * tieCubic n + 5000000000000 := by
  rw [pctPolynomial, tieCubic]
  ring

theorem tieCubic_cast_eq_zero {d : Nat} {n : Int} (h : (d : Int) ∣ tieCubic n) : tieCubic (n : ZMod d) = 0 := by
  have hcast := (ZMod.intCast_zmod_eq_zero_iff_dvd (tieCubic n) d).mpr h
  rw [tieCubic] at hcast ⊢
  exact_mod_cast hcast

theorem tieCubic_root_mod16 : ∀ x : ZMod 16, tieCubic x = 0 → x = 7 := by
  unfold tieCubic
  decide

/-- The `change` has `decide` enumerate `Fin 125`: through the `Fintype` of `ZMod 125` it recurses too deep. -/
theorem tieCubic_root_mod125 : ∀ x : ZMod 125, tieCubic x = 0 → x = 86 := by
  change ∀ x : Fin 125, tieCubic (R := ZMod 125) x = 0 → x = (86 : ZMod 125)
  unfold tieCubic
  decide

theorem tie_residue {n k : Int} (tie : pctPolynomial (100 * n) = 10000000000000 * k + 5000000000000) :
    n % 2000 = 711 := by
  rw [pctPolynomial_hundred] at tie
  have mod16 := tieCubic_root_mod16 _ (tieCubic_cast_eq_zero (d := 16) (n := n) (by omega))
  have mod125 := tieCubic_root_mod125 _ (tieCubic_cast_eq_zero (d := 125) (n := n) (by omega))
  have res16 : n ≡ 7 [ZMOD 16] := (ZMod.intCast_eq_intCast_iff n 7 16).mp mod16
  have res125 : n ≡ 86 [ZMOD 125] := (ZMod.intCast_eq_intCast_iff n 86 125).mp mod125
  rw [Int.ModEq] at res16 res125
  omega

/-- Settles O50: ties lie only at the values that are 71100 modulo 200000. -/
theorem noMillivoltValueIsATie : Obligations.NoMillivoltValueIsATie := by
  intro mv k hmv htie
  have tie : pctPolynomial mv = 10000000000000 * k + 5000000000000 :=
    pctPolynomial_eq_of_tie (by rwa [Int.cast_natCast])
  obtain ⟨n, hn⟩ := exists_hundred_mul_of_tie tie
  have residue := tie_residue (hn ▸ tie)
  omega

/-! ### The shape of the cubic (43_polynomial_scaler.md section 3) -/

theorem pctPolynomial_succ (mv : Int) : pctPolynomial (mv + 1) =
    pctPolynomial mv + (-4348170 * mv ^ 2 + 33112909830 * mv - 61571962820390) := by
  rw [pctPolynomial, pctPolynomial]
  ring

/-- The falling branch up to the local minimum near 3226.8 mV. -/
theorem pctPolynomial_antitoneOn_low : AntitoneOn pctPolynomial (Set.Iic 3227) := by
  refine antitoneOn_of_add_one_le Set.ordConnected_Iic fun mv _ _ hmv => ?_
  have belowMin : mv + 1 ≤ 3227 := hmv
  have product : 0 ≤ (3226 - mv) * (4389 - mv) := mul_nonneg (by omega) (by omega)
  rw [pctPolynomial_succ]
  linarith

/-- The rising branch between the local minimum and the local maximum. -/
theorem pctPolynomial_monotoneOn_middle : MonotoneOn pctPolynomial (Set.Icc 3227 4390) := by
  refine monotoneOn_of_le_add_one Set.ordConnected_Icc fun mv _ ⟨aboveMin, _⟩ ⟨_, belowMax⟩ => ?_
  have product : 0 ≤ (mv - 3227) * (4389 - mv) := mul_nonneg (by omega) (by omega)
  rw [pctPolynomial_succ]
  linarith

/-- The falling branch from the local maximum near 4389.6 mV on. -/
theorem pctPolynomial_antitoneOn_high : AntitoneOn pctPolynomial (Set.Ici 4390) := by
  refine antitoneOn_of_add_one_le Set.ordConnected_Ici fun mv _ hmv _ => ?_
  have aboveMax : 4390 ≤ mv := hmv
  have product : 0 ≤ (mv - 3227) * (mv - 4390) := mul_nonneg (by omega) (by omega)
  rw [pctPolynomial_succ]
  linarith

/-! ### The bound of the cubic (43_polynomial_scaler.md R182) -/

/-- Settles O49: on each branch the cubic lies between its values at the branch's ends. -/
theorem polynomialFitsSeventyBits : Obligations.PolynomialFitsSeventyBits := by
  refine ⟨fun n hn => ?_, by decide, by decide, by decide⟩
  have at0 : pctPolynomial 0 = 75013202000000000 := by decide
  have atMin : pctPolynomial 3227 = -5154249178370 := by decide
  have atMax : pctPolynomial 4390 = 1134209357490000 := by decide
  have atEnd : pctPolynomial 65535 = -340792932322334946250 := by decide
  have nonneg : (0 : Int) ≤ n := by omega
  rcases le_or_gt (n : Int) 3227 with low | low
  · have upper := pctPolynomial_antitoneOn_low (a := 0) (by decide) low nonneg
    have lower := pctPolynomial_antitoneOn_low low Set.self_mem_Iic low
    omega
  rcases le_or_gt (n : Int) 4390 with middle | high
  · have lower := pctPolynomial_monotoneOn_middle (by simp) ⟨low.le, middle⟩ low.le
    have upper := pctPolynomial_monotoneOn_middle ⟨low.le, middle⟩ (by simp) middle
    omega
  · have upper := pctPolynomial_antitoneOn_high Set.self_mem_Ici high.le high.le
    have lower := pctPolynomial_antitoneOn_high (b := 65535) high.le (by decide) (by omega)
    omega

/-! ### The percentage over its whole domain (43_polynomial_scaler.md R187) -/

theorem pctInt_le_pctInt {a b : Int} (h : pctPolynomial a ≤ pctPolynomial b) : pctInt a ≤ pctInt b := by
  rw [pctInt_eq, pctInt_eq]
  omega

theorem pctInt_antitoneOn_low : AntitoneOn pctInt (Set.Iic 3227) :=
  fun _ ha _ hb hab => pctInt_le_pctInt (pctPolynomial_antitoneOn_low ha hb hab)

theorem pctInt_monotoneOn_middle : MonotoneOn pctInt (Set.Icc 3227 4390) :=
  fun _ ha _ hb hab => pctInt_le_pctInt (pctPolynomial_monotoneOn_middle ha hb hab)

theorem pctInt_antitoneOn_high : AntitoneOn pctInt (Set.Ici 4390) :=
  fun _ ha _ hb hab => pctInt_le_pctInt (pctPolynomial_antitoneOn_high ha hb hab)

/-- The first plateau at 100. -/
theorem pctInt_eq_hundred_low {mv : Int} (hi : mv ≤ 2678) : pctInt mv = 100 := by
  have atEnd : pctInt 2678 = 100 := by decide
  have above := pctInt_antitoneOn_low (show mv ≤ 3227 by omega) (by decide) hi
  have bounds := pctInt_bounds mv
  omega

theorem pctInt_between_low {mv : Int} (lo : 2679 ≤ mv) (hi : mv ≤ 3164) : 1 ≤ pctInt mv ∧ pctInt mv ≤ 99 := by
  have atStart : pctInt 2679 = 99 := by decide
  have atEnd : pctInt 3164 = 1 := by decide
  have onBranch : mv ≤ 3227 := by omega
  have below := pctInt_antitoneOn_low (by decide) onBranch lo
  have above := pctInt_antitoneOn_low onBranch (by decide) hi
  omega

/-- The dip to 0 around the local minimum. -/
theorem pctInt_eq_zero_dip {mv : Int} (lo : 3165 ≤ mv) (hi : mv ≤ 3291) : pctInt mv = 0 := by
  have atStart : pctInt 3165 = 0 := by decide
  have atEnd : pctInt 3291 = 0 := by decide
  have bounds := pctInt_bounds mv
  rcases le_or_gt mv 3227 with falling | rising
  · have below := pctInt_antitoneOn_low (by decide) falling lo
    omega
  · have below := pctInt_monotoneOn_middle ⟨rising.le, by omega⟩ (by simp) hi
    omega

theorem pctInt_between_middle {mv : Int} (lo : 3292 ≤ mv) (hi : mv ≤ 4135) : 1 ≤ pctInt mv ∧ pctInt mv ≤ 99 := by
  have atStart : pctInt 3292 = 1 := by decide
  have atEnd : pctInt 4135 = 99 := by decide
  have onBranch : mv ∈ Set.Icc 3227 4390 := ⟨by omega, by omega⟩
  have above := pctInt_monotoneOn_middle (by simp) onBranch lo
  have below := pctInt_monotoneOn_middle onBranch (by simp) hi
  omega

/-- The second plateau at 100, around the local maximum. -/
theorem pctInt_eq_hundred_high {mv : Int} (lo : 4136 ≤ mv) (hi : mv ≤ 4610) : pctInt mv = 100 := by
  have atStart : pctInt 4136 = 100 := by decide
  have atEnd : pctInt 4610 = 100 := by decide
  have bounds := pctInt_bounds mv
  rcases le_or_gt mv 4390 with rising | falling
  · have above := pctInt_monotoneOn_middle (by simp) ⟨by omega, rising⟩ lo
    omega
  · have above := pctInt_antitoneOn_high falling.le (by decide) hi
    omega

theorem pctInt_between_high {mv : Int} (lo : 4611 ≤ mv) (hi : mv ≤ 4968) : 1 ≤ pctInt mv ∧ pctInt mv ≤ 99 := by
  have atStart : pctInt 4611 = 99 := by decide
  have atEnd : pctInt 4968 = 1 := by decide
  have onBranch : 4390 ≤ mv := by omega
  have below := pctInt_antitoneOn_high (by decide) onBranch lo
  have above := pctInt_antitoneOn_high onBranch (by decide) hi
  omega

theorem pctInt_eq_zero_high {mv : Int} (lo : 4969 ≤ mv) : pctInt mv = 0 := by
  have atStart : pctInt 4969 = 0 := by decide
  have below := pctInt_antitoneOn_high (by decide) (show 4390 ≤ mv by omega) lo
  have bounds := pctInt_bounds mv
  omega

/-- The dip and the second plateau extend the rising branch: 0 is the least percentage and 100 the greatest. -/
theorem pctInt_monotoneOn_dip_to_plateau : MonotoneOn pctInt (Set.Icc 3165 4610) := by
  intro a ⟨loA, hiA⟩ b ⟨loB, hiB⟩ hab
  rcases le_or_gt a 3291 with dip | rising
  · have ⟨nonneg, _⟩ := pctInt_bounds b
    rwa [pctInt_eq_zero_dip loA dip]
  rcases le_or_gt 4136 b with plateau | rising'
  · have ⟨_, le_hundred⟩ := pctInt_bounds a
    rwa [pctInt_eq_hundred_high plateau hiB]
  · exact pctInt_monotoneOn_middle ⟨by omega, by omega⟩ ⟨by omega, by omega⟩ hab

theorem pct_eq_ofNat (mv : Millivolts) : pct mv = BitVec.ofNat 32 (pctInt mv.toNat).toNat := by
  obtain ⟨nonneg, -⟩ := pctInt_bounds mv.toNat
  rw [pct, ← BitVec.ofInt_natCast, Int.toNat_of_nonneg nonneg]

theorem pct_ofNat_toNat {mv : Nat} (h : mv ≤ 65535) : ((pct (BitVec.ofNat 16 mv)).toNat : Int) = pctInt mv := by
  have fits : (BitVec.ofNat 16 mv).toNat = mv := Nat.mod_eq_of_lt (by omega)
  have bounds := pctInt_bounds mv
  rw [pct_eq_ofNat, fits, BitVec.toNat_ofNat, Nat.mod_eq_of_lt (by omega), Int.toNat_of_nonneg bounds.left]

/-- Settles O48: the seven ranges of `pctInt`, read off the 16-bit argument. -/
theorem pctOverItsWholeDomain : Obligations.PctOverItsWholeDomain := by
  unfold Obligations.PctOverItsWholeDomain
  intro f
  have f_eq : ∀ mv ≤ 65535, (f mv : Int) = pctInt mv := fun mv h => pct_ofNat_toNat h
  refine ⟨fun mv hi => ?_, fun mv lo hi => ?_, fun mv lo hi => ?_, fun mv lo hi => ?_, fun mv lo hi => ?_,
    fun mv lo hi => ?_, fun mv lo hi => ?_, fun a b lo hab hi => ?_, by decide, by decide⟩
  · have value := f_eq mv (by omega)
    have range := pctInt_eq_hundred_low (mv := mv) (by omega)
    omega
  · have value := f_eq mv (by omega)
    have range := pctInt_between_low (mv := mv) (by omega) (by omega)
    omega
  · have value := f_eq mv (by omega)
    have range := pctInt_eq_zero_dip (mv := mv) (by omega) (by omega)
    omega
  · have value := f_eq mv (by omega)
    have range := pctInt_between_middle (mv := mv) (by omega) (by omega)
    omega
  · have value := f_eq mv (by omega)
    have range := pctInt_eq_hundred_high (mv := mv) (by omega) (by omega)
    omega
  · have value := f_eq mv (by omega)
    have range := pctInt_between_high (mv := mv) (by omega) (by omega)
    omega
  · have value := f_eq mv (by omega)
    have range := pctInt_eq_zero_high (mv := mv) (by omega)
    omega
  · have valueA := f_eq a (by omega)
    have valueB := f_eq b (by omega)
    have rises := pctInt_monotoneOn_dip_to_plateau (a := a) (b := b) ⟨by omega, by omega⟩ ⟨by omega, by omega⟩ (by omega)
    omega

/-! ### Divider scaling (43_polynomial_scaler.md R184) -/

theorem scaleMv_toNat (c : Configuration) (b : BatCode) :
    (scaleMv c b).toNat = min (b.toNat * c.ratioNum.toNat / c.ratioDen.toNat) 65535 := by
  have quotient : floorDiv ((b.toNat : Int) * c.ratioNum.toNat) c.ratioDen.toNat =
      ((b.toNat * c.ratioNum.toNat / c.ratioDen.toNat : Nat) : Int) := by
    rw [floorDiv_eq_ediv _ (Int.natCast_nonneg _)]
    push_cast
    rfl
  rw [scaleMv, quotient]
  split
  case isTrue saturated =>
    exact (Nat.min_eq_right (by omega)).symm
  case isFalse fits =>
    rw [BitVec.ofInt_natCast, BitVec.toNat_ofNat, Nat.mod_eq_of_lt (by omega), Nat.min_eq_left (by omega)]

/-- Settles O52. -/
theorem scaleMvFloorsAndSaturates : Obligations.ScaleMvFloorsAndSaturates := fun c b _ => scaleMv_toNat c b

/-! ### The gauge commands (43_polynomial_scaler.md R183, R185, R186) -/

theorem exec_pctFromMv_eq (mv : Millivolts) (s : State) : exec (.pctFromMv mv) s = .next (s.respond (pct mv)) := rfl

theorem exec_readMv_eq {s : State} (den : s.cfg.ratioDen ≠ 0) :
    exec .readMv s = .next (s.respond (zext32 (scaleMv s.cfg s.batRead))) :=
  (exec_readMv_next_iff s _).mpr ⟨den, rfl⟩

theorem exec_readPct_eq {s : State} (den : s.cfg.ratioDen ≠ 0) :
    exec .readPct s = .next (s.respond (pct (scaleMv s.cfg s.batRead))) :=
  (exec_readPct_next_iff s _).mpr ⟨den, rfl⟩

theorem ratioDen_ne_zero_of_one_le {c : Configuration} (h : 1 ≤ c.ratioDen.toNat) : c.ratioDen ≠ 0 := by
  intro zero
  simp [zero] at h

/-- The machine's percentage is the exact rational one. -/
theorem pct_eq_pctRational (mv : Millivolts) :
    ∃ r : Nat, r ≤ 100 ∧ (r : Int) = pctRational mv.toNat ∧ pct mv = BitVec.ofNat 32 r := by
  obtain ⟨nonneg, le_hundred⟩ := pctInt_bounds mv.toNat
  refine ⟨(pctInt mv.toNat).toNat, by omega, ?_, pct_eq_ofNat mv⟩
  rw [Int.toNat_of_nonneg nonneg, pctInt_eq_pctRational]

/-- Settles O51. -/
theorem pctFromMvAnswersThePercentage : Obligations.PctFromMvAnswersThePercentage := by
  intro mv s
  obtain ⟨r, le_hundred, rational, answer⟩ := pct_eq_pctRational mv
  exact ⟨r, le_hundred, rational, answer ▸ exec_pctFromMv_eq mv s⟩

theorem zext32_eq_ofNat {n : Nat} (v : BitVec n) : zext32 v = BitVec.ofNat 32 v.toNat := (BitVec.ofNat_toNat 32 v).symm

/-- Settles O53. -/
theorem readMvAnswersTheScaledPort : Obligations.ReadMvAnswersTheScaledPort := by
  refine fun s => ⟨fun den => ?_, fun zero => if_pos zero⟩
  rw [exec_readMv_eq (ratioDen_ne_zero_of_one_le den), zext32_eq_ofNat, scaleMv_toNat]
  rfl

/-- Settles O54: READ_PCT and READ_MV answer from one scaled value. -/
theorem readPctIsPctOfReadMv : Obligations.ReadPctIsPctOfReadMv := by
  refine fun s => ⟨fun den => ?_, fun zero => if_pos zero⟩
  have answers := ratioDen_ne_zero_of_one_le den
  obtain ⟨r, -, rational, answer⟩ := pct_eq_pctRational (scaleMv s.cfg s.batRead)
  exact ⟨scaleMv s.cfg s.batRead, r, scaleMv_toNat s.cfg s.batRead, rational, answer ▸ exec_readPct_eq answers,
    exec_readMv_eq answers, exec_readPct_eq answers⟩

end Sys2Proof.Machine
end

section
/-! The exceptions of 60_exceptions.md: the four causes of ILLEGAL (R202) and its one response (R201), and that nothing
else stops a well-formed instance (R200). -/

namespace Sys2Proof.Machine

/-! ### The four causes on the fields of the pair (60_exceptions.md R202) -/

/-- First cause: the decoder selects no command. -/
theorem selectMnemonic_eq_none_iff (op : BitVec 4) : selectMnemonic op = none ↔ 12 ≤ op.toNat := by
  revert op
  decide

/-- The other three causes, the checks left once OP has selected a command. -/
theorem isIllegal_iff_of_selected {cmd : CmdWord} {m : Mnemonic} (hop : selectMnemonic (cmdOp cmd) = some m)
    (opnd : Operand) :
    isIllegal cmd opnd = true ↔
      cmdRsv cmd ≠ 0 ∨ (m.operandClass ≠ .index ∧ cmdIdx cmd ≠ 0) ∨
      (m.operandClass = .millivolts ∧ opndHigh opnd ≠ 0) := by
  rw [isIllegal_iff]
  simp only [decode, hop]
  split_ifs with hrsv hidx hhigh
  · exact iff_of_true ⟨_, rfl⟩ (.inl hrsv)
  · exact iff_of_true ⟨_, rfl⟩ (.inr (.inl hidx))
  · exact iff_of_true ⟨_, rfl⟩ (.inr (.inr hhigh))
  · exact iff_of_false (by simp) (not_or.mpr ⟨hrsv, not_or.mpr ⟨hidx, hhigh⟩⟩)

/-! ### The fields and the classes as numbers (30_encoding.md R71, R72) -/

theorem opndHigh_toNat (opnd : Operand) : (opndHigh opnd).toNat = opnd.toNat / 65536 := by
  have := opnd.isLt
  rw [opndHigh, BitVec.extractLsb'_toNat, Nat.shiftRight_eq_div_pow]
  omega

/-- The opcodes of classes N, T and M. -/
theorem operandClass_ne_index_iff {op : BitVec 4} {m : Mnemonic} (hop : selectMnemonic op = some m) :
    m.operandClass ≠ .index ↔ op.toNat ∈ [0x0, 0x1, 0x5, 0x6, 0x7, 0x9, 0xA, 0xB] := by
  obtain rfl := (selectMnemonic_eq_some_iff op m).mp hop
  cases m <;> decide

/-- PCT_FROM_MV is the one command of class M. -/
theorem operandClass_eq_millivolts_iff {op : BitVec 4} {m : Mnemonic} (hop : selectMnemonic op = some m) :
    m.operandClass = .millivolts ↔ op.toNat = 0x9 := by
  obtain rfl := (selectMnemonic_eq_some_iff op m).mp hop
  cases m <;> decide

/-- Settles O3: OP selects no command, which is the first cause, or it selects one and the other checks decide. -/
theorem illegalExactlyOnTheFourCauses : Obligations.IllegalExactlyOnTheFourCauses := by
  refine fun cmd opnd => ⟨?_, fun illegal s => ⟨_, transact_of_isIllegal illegal s, rfl, rfl⟩⟩
  rw [← cmdOp_toNat, ← cmdRsv_toNat, ← cmdIdx_toNat, ← opndHigh_toNat]
  cases hop : selectMnemonic (cmdOp cmd) with
  | none =>
    have reserved := (selectMnemonic_eq_none_iff _).mp hop
    have illegal : isIllegal cmd opnd = true :=
      (isIllegal_iff cmd opnd).mpr ⟨.reservedOpcode, by simp only [decode, hop]⟩
    exact iff_of_true illegal (.inl reserved)
  | some m =>
    have notReserved : ¬ 12 ≤ (cmdOp cmd).toNat := by simp [← selectMnemonic_eq_none_iff, hop]
    rw [isIllegal_iff_of_selected hop, operandClass_ne_index_iff hop, operandClass_eq_millivolts_iff hop,
      or_iff_right notReserved]
    simp only [ne_eq, BitVec.toNat_eq, BitVec.ofNat_eq_ofNat, BitVec.toNat_ofNat, Nat.zero_mod]

/-! ### Every step answers (60_exceptions.md R200, R201) -/

/-- Settles O16: RATIO_DEN is not 0 in a well-formed configuration, and no command asks for more. -/
theorem wellFormedInstanceAlwaysAnswers : Obligations.WellFormedInstanceAlwaysAnswers := step_answers

/-! ### The response of an ILLEGAL word, and its end (60_exceptions.md R201) -/

theorem updated_ill (s : State) (now : Time) : (s.updated now).ill = 0 := State.respond_ill _ 0

/-- Every command ends in a response, which clears ILL. -/
theorem exec_ill {i : Instr} {s t : State} (h : exec i s = .next t) : t.ill = 0 := by
  obtain ⟨now, rfl⟩ | ⟨v, rfl⟩ := exec_respond_or_update i s t h
  · rw [eq_updated_of_exec h]
    exact updated_ill s now
  · exact State.respond_ill s v

/-- Settles O11. -/
theorem illegalWordWritesOnlyTheResponse : Obligations.IllegalWordWritesOnlyTheResponse := by
  refine ⟨fun s cmd opnd draws later wf hp illegal => ?_, fun _ _ _ => exec_ill⟩
  rw [step_command s cmd opnd draws later wf hp, transact_of_isIllegal illegal]
  rfl

end Sys2Proof.Machine
end

section
/-! The rules of 70_reset_and_hazards.md: the reset input (R230) and what it ends (R243), a button held at reset (R234),
and the host's clock: below LDT (R237) and across its wrap (R238). -/

namespace Sys2Proof.Machine

/-! ### The clock under the commit condition (70_reset_and_hazards.md R237, R238) -/

/-- An UPDATE that moves STABLE commits. -/
theorem commitsAt_of_stable_moved {s : State} {now : Time} (moved : (s.updated now).stable ≠ s.stable) :
    s.CommitsAt now := by
  obtain ⟨-, -, ⟨commits, -⟩ | ⟨-, kept, -⟩⟩ := exec_update_cases now s _ (exec_update_eq_updated now s)
  · exact commits
  · exact absurd kept moved

/-- Sampled again, the pending mask becomes STABLE exactly when the window has passed. -/
theorem updated_stable_eq_lraw_iff {s : State} (same : s.sampleRaw = s.lraw) (pending : s.lraw ≠ s.stable)
    (now : Time) : (s.updated now).stable = s.lraw ↔ s.cfg.debounceDelay.toNat < (now - s.ldt).toNat := by
  constructor
  · intro committed
    obtain ⟨-, late, -⟩ := commitsAt_of_stable_moved (s := s) (now := now) (committed.symm ▸ pending)
    exact late
  · intro late
    rw [updated_of_commitsAt ⟨same, late, same.symm ▸ pending⟩]
    exact same

/-- Settles O35: the difference to LDT is the true one while NOW is not below LDT, and wraps below it. -/
theorem commitNeedsMoreThanTheWindow : Obligations.CommitNeedsMoreThanTheWindow := by
  intro now s t h
  obtain rfl := eq_updated_of_exec h
  refine ⟨fun moved notBelow => ?_, fun below same pending late => ?_⟩
  · obtain ⟨-, late, -⟩ := commitsAt_of_stable_moved moved
    rw [BitVec.toNat_sub_of_le notBelow] at late
    omega
  · refine (updated_stable_eq_lraw_iff same pending now).mpr ?_
    rwa [BitVec.toNat_sub_of_lt below]

/-- The low words of two true times measure their interval, if it is below 2^32. -/
theorem toNat_sub_ofNat_add (start : Nat) {d : Nat} (hd : d < 4294967296) :
    (BitVec.ofNat 32 (start + d) - BitVec.ofNat 32 start).toNat = d := by
  rw [BitVec.ofNat_add, BitVec.add_comm, BitVec.add_sub_cancel]
  exact Nat.mod_eq_of_lt hd

/-- Settles O43: both timers take one and the same difference. -/
theorem intervalsAreRightAcrossTheWrap : Obligations.IntervalsAreRightAcrossTheWrap := by
  refine fun s start d hd => ⟨fun active started => ?_, fun same pending started => ?_⟩
  · refine ⟨_, exec_query_eq rfl (heldTime_of_active active _), ?_⟩
    rw [started]
    exact toNat_sub_ofNat_add start hd
  · refine ⟨_, exec_update_eq_updated _ s, ?_⟩
    rw [updated_stable_eq_lraw_iff same pending, started, toNat_sub_ofNat_add start hd]

/-! ### The reset input (70_reset_and_hazards.md R230, R243) -/

/-- Settles O12. -/
theorem resetInputRestoresEveryRegister : Obligations.ResetInputRestoresEveryRegister := step_reset

theorem exec_wasReleased_of_released_zero {s : State} (quiet : s.released = 0) (idx : ButtonIdx) :
    exec (.wasReleased idx) s = .next { s with result := 0, ill := 0 } := by
  have unset : bitTest s.released idx = false := by simp [bitTest, quiet]
  exact exec_query_eq rfl (congrArg boolResult unset)

theorem run_of_reset {s : State} {later : List Event} (wf : s.cfg.wellFormed = true) (hp : s.pending = .reset :: later)
    (n : Nat) : Sys2Proof.core.run (n + 1) s = Sys2Proof.core.run n (s.present s.ports later).applyReset :=
  run_succ_of_step (M := Sys2Proof.core) (step_reset s later wf hp) n

/-- A presented instruction that answers `t` takes the run there. -/
theorem run_of_encode {s t : State} {i : Instr} {draws : Ports} {later : List Event} (wf : s.cfg.wellFormed = true)
    (hp : s.pending = .command (encode i).1 (encode i).2 draws :: later)
    (h : exec i (s.present draws later) = .next t) (n : Nat) :
    Sys2Proof.core.run (n + 1) s = Sys2Proof.core.run n t := by
  refine run_succ_of_step (M := Sys2Proof.core) (Eq.trans ?_ h) n
  exact (step_command s _ _ draws later wf hp).trans (transact_of_command (decode_encode i) _)

/-- Settles O36: the reset clears RELEASED before the query reads it. -/
theorem resetDuringAHoldReportsNoRelease : Obligations.ResetDuringAHoldReportsNoRelease := by
  intro s idx draws wf hp
  rw [run_of_reset wf hp 1]
  refine ⟨_, run_of_encode ?wf rfl (exec_wasReleased_of_released_zero rfl idx) 0, rfl, rfl, rfl⟩
  exact wf

/-! ### A button held at reset (70_reset_and_hazards.md R234) -/

/-- Settles O33: the first poll starts the timer, and from there the second has the latency of a steady input (R130). -/
theorem heldAtResetIsReportedAsAPress : Obligations.HeldAtResetIsReportedAsAPress := by
  refine fun c t1 t2 p1 p2 wf => ⟨fun steady held late => ?_, fun idle => ?_⟩
  · have first := sameHoldNoEdge_afterPoll (s := State.resetWith c) (q := (t1, p1)) fun ⟨same, _⟩ => held same
    have lraw1 := afterPoll_lraw (State.resetWith c) (t1, p1)
    have ldt1 : ((State.resetWith c).afterPoll (t1, p1)).ldt = t1 := (afterPoll_ldt _ _).trans (if_neg held)
    have step1 := step_withUpdates_cons (State.resetWith c) (t1, p1) [(t2, p2)] wf
    generalize (State.resetWith c).afterPoll (t1, p1) = u at first lraw1 ldt1 step1
    obtain ⟨-, t, hrun, hstable, hpressed, hreleased, hldt, hpstart, hpfinish⟩ :=
      commitLatencyOfASteadyInput u [] t2 p2 (first.cfg ▸ wf) (by rwa [lraw1, first.stable])
        (fun _ hq => absurd hq List.not_mem_nil)
        (by rw [rawOf_congr first.cfg, lraw1, steady]) (by rwa [first.cfg, ldt1])
    refine ⟨t, (run_succ_of_step (M := Sys2Proof.core) step1 1).trans hrun, ?_, hstable.trans lraw1, ?_,
      hldt.trans ldt1, hpstart.trans (if_pos first.stable), ?_⟩
    · rw [hpressed, lraw1, first.stable, State.resetWith_stable, BitVec.ofNat_eq_ofNat, BitVec.not_zero,
        BitVec.and_allOnes]
    · simp [hreleased, first.stable]
    · rw [hpfinish, lraw1, if_neg held, first.pfinish]
      rfl
  · refine ⟨_, run_withUpdates _ [(t1, p1)] 1 wf le_rfl, ?_⟩
    have quiet : (State.resetWith c).afterPoll (t1, p1) = ((State.resetWith c).withDraws p1).quieted :=
      updated_of_same idle (not_commitsAt_of_sample_stable idle)
    change SameButtonState _ (((State.resetWith c).afterPoll (t1, p1)).withUpdates [])
    rw [quiet]
    exact ⟨rfl, rfl, rfl, rfl, rfl, rfl, rfl⟩

end Sys2Proof.Machine
end
